-- ==== Sys2Proof/Word.lean ====
section
/-! DEFINITION. The word types of the block. Every value is an unsigned bit pattern (00_scope R9, R12). -/

namespace Sys2Proof

/-- A host register or bus word: 32 bits (00_scope R10, `HOST_REG_W`). -/
abbrev Word := BitVec 32

/-- One byte on the two-wire bus (20_memory R50). -/
abbrev Byte := BitVec 8

/-- A device register address or a device bus address: 7 bits (00_scope R9, 10_state R30). -/
abbrev Addr7 := BitVec 7

/-- A device register value: 11 bits (00_scope R9). -/
abbrev Val11 := BitVec 11

/-- A wire codeword or a raw response word: 16 bits (00_scope R9). -/
abbrev Codeword := BitVec 16

/-- The check bits of the codec: 3 bits (00_scope R9). -/
abbrev Chk := BitVec 3

end Sys2Proof
end

