-- ==== Sys2Proof/Syntax.lean ====
section
/-! DEFINITION. The instructions of the block: the rows of spec/opcode_table.json (30_encoding R62, R65). -/

namespace Sys2Proof

/-- One constructor per row of the opcode table. The only immediate is the 7-bit device register address
`RADDR` (30_encoding R61). CRC and DEC take none: their RADDR field must be 0 (R63). -/
inductive Instr where
  /-- CRC: the checksum of OPA under generator OPB with filler OPC (40_checksum_engine R84). -/
  | crc
  /-- ENC a: encode a register write without sending it (41_register_codec R88). -/
  | enc (a : Addr7)
  /-- DEC: decode and validate a received word (41_register_codec R89). -/
  | dec
  /-- RDREG a: read a device register, retrying on checksum failure (43_register_transfer R111). -/
  | rdreg (a : Addr7)
  /-- WRREG a: write a device register (43_register_transfer R112). -/
  | wrreg (a : Addr7)
  /-- RDFLD a: read a field of a device register (42_masked_accessor R94). -/
  | rdfld (a : Addr7)
  /-- WRFLD a: read, merge and write back a device register (42_masked_accessor R95). -/
  | wrfld (a : Addr7)
  /-- ABORT: ask the running bus command to stop at its next safe point (44_control R113). -/
  | abort
  deriving DecidableEq, Repr

end Sys2Proof
end

