-- ==== Sys2Proof/Config.lean ====
section
/-! DEFINITION. What the platform fixes and what the environment draws: the moves of the agents outside the engine
(10_state R20), the free move taken when none is placed, and the OPEN parameters of 00_scope R10. -/

namespace Sys2Proof

/-- The BUS agent's answer to one primitive (20_memory R50, R54). Each primitive uses the one part it asks for:
`ack` answers `BusWrite` (OK or NACK) and `BusEnd` (OK or ERR), `count` answers `BusRequest(a, 2)` with 0, 1 or 2
bytes, `byte` answers `BusRead`. `BusBegin` has no response. -/
structure BusReply where
  ack   : Bool
  count : Fin 3
  byte  : Byte
  deriving DecidableEq, Repr, Inhabited

/-- What a host access does at its offset (20_memory R42). -/
inductive HostOp where
  | read
  | write (v : Word)
  deriving DecidableEq, Repr, Inhabited

/-- One host access of the 64-byte window: its byte offset from `BASE_ADDR` and its width in bytes
(20_memory R42, R43). -/
structure HostAccess where
  offset : BitVec 6
  width  : Nat
  op     : HostOp
  deriving DecidableEq, Repr, Inhabited

/-- One move of one agent (10_state R20, 70_reset_and_hazards R130). -/
inductive Event where
  /-- HOST: one register access. -/
  | host (a : HostAccess)
  /-- ENGINE: one engine step, with the BUS agent's answer to the primitive that is next, or `none` while it has not
  answered (20_memory R54). -/
  | engine (r : Option BusReply)
  /-- TICK: one tick pulse. -/
  | tick
  /-- RESET: the atomic reset step. -/
  | reset
  /-- The input `rst` goes to this level and stays there. -/
  | rst (level : Bool)
  deriving DecidableEq, Repr, Inhabited

namespace Config

/-- FREE VALUE (log 2): the move taken at the `n`-th step for which none is placed. Any enabled agent may be scheduled
at any step (10_state R20) and every bus response is a draw (20_memory R54), so nothing constrains it. -/
opaque freeEvent : Nat → Event

/-- OPEN (log 12): the window's place in the host's address space, in units of the 64-byte window. -/
opaque basePage : Nat

/-- OPEN (log 12): the device's address on the two-wire bus; host software writes it into DEVADDR (10_state R30). -/
opaque deviceBusAddr : Addr7

/-- `BASE_ADDR`, aligned to 64 bytes by its form (00_scope R10). -/
def baseAddr : Nat := 64 * basePage

/-- The window offset of a host address, or nothing when the address is not the block's (20_memory R42). -/
def windowOffset (addr : Nat) : Option (BitVec 6) :=
  if baseAddr ≤ addr ∧ addr < baseAddr + 64 then some (BitVec.ofNat 6 (addr - baseAddr)) else none

end Config

end Sys2Proof
end

