-- ==== Sys2Proof/WellFormed.lean ====
section
/-! DEFINITION. What makes a command word legal (30_encoding R60, R63) and a host access acceptable (20_memory R43). -/

namespace Sys2Proof

/-- The raw fields of a command word (30_encoding R60), before any check. -/
structure CmdFields where
  upper : BitVec 21
  raddr : Addr7
  op    : BitVec 4
  deriving DecidableEq, Repr

namespace CmdFields

/-- `w[31:11]` must be zero (30_encoding R63). -/
def upperZero (f : CmdFields) : Bool := f.upper == 0

/-- OP must be 0x1 to 0x7 (30_encoding R62, R63). -/
def opKnown (f : CmdFields) : Bool := 1 ≤ f.op && f.op ≤ 7

/-- Under CRC and DEC, RADDR must be zero (30_encoding R63). -/
def raddrAllowed (f : CmdFields) : Bool := (f.op != 1 && f.op != 3) || f.raddr == 0

/-- The word is legal (30_encoding R63). -/
def wf (f : CmdFields) : Bool := f.upperZero && f.opKnown && f.raddrAllowed

end CmdFields

namespace HostAccess

/-- Every host access is 32 bits wide (20_memory R43). -/
def wordWide (a : HostAccess) : Bool := a.width == 4

/-- Every host access stands at an offset that is a multiple of 4 (20_memory R43). -/
def aligned (a : HostAccess) : Bool := a.offset.toNat % 4 == 0

/-- The access is performed, not refused (20_memory R43). -/
def wf (a : HostAccess) : Bool := a.wordWide && a.aligned

end HostAccess

end Sys2Proof
end

