-- ==== Sys2Proof/Decode.lean ====
section
/-! DEFINITION. Decoding and encoding. The block has one instruction format, the 32-bit command word written to CMD
(30_encoding R59, R60), and one control write, ABORT, written to CTRL (R65). A word is a single 32-bit bus access, so
no byte order arises (20_memory R43). The same word 0x00000001 is CRC at CMD and ABORT at CTRL: which register it is
written to is part of the encoding. -/

namespace Sys2Proof

/-- The register an instruction is written to. -/
inductive Port where
  | cmd
  | ctrl
  deriving DecidableEq, Repr

/-- Why a written word is no instruction. The first three make a command word illegal (30_encoding R63, R64); the last
is a CTRL write without the ABORT bit, which has no effect (10_state R33). -/
inductive DecodeReject where
  | upperNotZero
  | opUnknown
  | raddrNotZero
  | noAbortBit
  deriving DecidableEq, Repr

/-- The fields of a command word (30_encoding R60). -/
def splitCmd (w : Word) : CmdFields where
  upper := w.extractLsb' 11 21
  raddr := w.extractLsb' 4 7
  op    := w.extractLsb' 0 4

/-- The word of the fields (30_encoding R60, R74). -/
def joinCmd (f : CmdFields) : Word := (f.upper ++ f.raddr ++ f.op).setWidth 32

/-- The opcode map (30_encoding R62), for a word whose upper bits are zero. -/
def instrOf (op : BitVec 4) (a : Addr7) : Except DecodeReject Instr :=
  match op.toNat with
  | 1 => if a = 0 then .ok .crc else .error .raddrNotZero
  | 2 => .ok (.enc a)
  | 3 => if a = 0 then .ok .dec else .error .raddrNotZero
  | 4 => .ok (.rdreg a)
  | 5 => .ok (.wrreg a)
  | 6 => .ok (.rdfld a)
  | 7 => .ok (.wrfld a)
  | _ => .error .opUnknown

/-- A word written to CMD (30_encoding R60 to R64). -/
def decodeCmd (w : Word) : Except DecodeReject Instr :=
  let f := splitCmd w
  if f.upper = 0 then instrOf f.op f.raddr else .error .upperNotZero

/-- A word written to CTRL: ABORT when bit 0 is 1, whatever the other 31 bits (30_encoding R65). -/
def decodeCtrl (w : Word) : Except DecodeReject Instr :=
  if w.getLsbD 0 then .ok .abort else .error .noAbortBit

/-- A word written to one of the two registers that take instructions. -/
def decode : Port → Word → Except DecodeReject Instr
  | .cmd, w  => decodeCmd w
  | .ctrl, w => decodeCtrl w

/-- The instruction among the decoder's answers, if any. -/
def accepted : Except DecodeReject Instr → Option Instr
  | .ok i    => some i
  | .error _ => none

/-- Where an instruction is written. -/
def Instr.port : Instr → Port
  | .crc     => .cmd
  | .enc _   => .cmd
  | .dec     => .cmd
  | .rdreg _ => .cmd
  | .wrreg _ => .cmd
  | .rdfld _ => .cmd
  | .wrfld _ => .cmd
  | .abort   => .ctrl

/-- The OP value of a command word (30_encoding R62). ABORT is no command and has none; it is given 0, which is no
command's OP. -/
def Instr.op : Instr → BitVec 4
  | .crc     => 1
  | .enc _   => 2
  | .dec     => 3
  | .rdreg _ => 4
  | .wrreg _ => 5
  | .rdfld _ => 6
  | .wrfld _ => 7
  | .abort   => 0

/-- The RADDR field of a command word; 0 for the instructions that carry none (30_encoding R60). -/
def Instr.raddr : Instr → Addr7
  | .enc a   => a
  | .rdreg a => a
  | .wrreg a => a
  | .rdfld a => a
  | .wrfld a => a
  | .crc     => 0
  | .dec     => 0
  | .abort   => 0

/-- The word of an instruction, `OP | (a << 4)` (30_encoding R74); ABORT's is a CTRL write of 1 (R75). -/
def encode (i : Instr) : Word :=
  match i.port with
  | .cmd  => joinCmd ⟨0, i.raddr, i.op⟩
  | .ctrl => 1

/-- An instruction is well formed when its word is legal where it is written (30_encoding R63, R65). Operands are typed
by their widths, so every instruction is (`Laws.instr_wf`); the ill-formed terms are raw fields. -/
def Instr.wf (i : Instr) : Bool :=
  match i.port with
  | .cmd  => (splitCmd (encode i)).wf
  | .ctrl => (encode i).getLsbD 0

/-- One row of the opcode table: the CMD-word rows of spec/opcode_table.json. -/
structure OpcodeRow where
  mnemonic : String
  value    : Word
  mask     : Word
  deriving DecidableEq, Repr

/-- The seven CMD-word rows, as the table prints them (30_encoding R63). -/
def opcodeRows : List OpcodeRow :=
  [ ⟨"CRC",   0x00000001, 0xFFFFFFFF⟩,
    ⟨"ENC",   0x00000002, 0xFFFFF80F⟩,
    ⟨"DEC",   0x00000003, 0xFFFFFFFF⟩,
    ⟨"RDREG", 0x00000004, 0xFFFFF80F⟩,
    ⟨"WRREG", 0x00000005, 0xFFFFF80F⟩,
    ⟨"RDFLD", 0x00000006, 0xFFFFF80F⟩,
    ⟨"WRFLD", 0x00000007, 0xFFFFF80F⟩ ]

/-- `w & mask = match` (30_encoding R63). -/
def OpcodeRow.hits (r : OpcodeRow) (w : Word) : Bool := w &&& r.mask == r.value

/-- The port of a table row that gives `nbits` bits: a command word always has its 32 bits (30_encoding R59), and the one
row of fewer, ABORT (bit 0 alone), is a CTRL write (log 4). -/
def tablePort (nbits : Nat) : Port := if nbits < 32 then .ctrl else .cmd

/-- The decoder's reading of an instruction whose bits, numbered as the table numbers them, are `w`. -/
def decodeTableWord (nbits w : Nat) : Option Instr :=
  if w < 2 ^ 32 then accepted (decode (tablePort nbits) (BitVec.ofNat 32 w)) else none

end Sys2Proof
end

