-- ==== Sys2Proof/Machine/Params.lean ====
section
/-! DEFINITION. The fixed numbers of the block (00_scope R9, R10). -/

namespace Sys2Proof.Machine

/-- `CODEC_GEN`, the codec's generator 0b1011 (00_scope R5, R10). -/
def codecGen : Word := 0xB

/-- `FRAMING`, codeword bits 4:3 (00_scope R10). -/
def framing : Codeword := 0x18

/-- The block revision in ID[7:0] (10_state R34). -/
def revision : Byte := 0x01

/-- ID, hardwired (10_state R34). -/
def idWord : Word := (0#8 ++ framing.setWidth 8 ++ codecGen.setWidth 8 ++ revision).setWidth 32

/-- `DEVICE_READ_COUNT`, the bytes of one read request (00_scope R10, 43_register_transfer R107). -/
def readCount : Nat := 2

/-- The lowest and highest legal `WR_ADDR_POS` (10_state R29). -/
def wrAddrPosMin : BitVec 5 := 16
def wrAddrPosMax : BitVec 5 := 25

end Sys2Proof.Machine
end

