-- ==== Sys2Proof/Machine/State.lean ====
section
/-! DEFINITION. The state of the block (10_state R19 to R41), the model's record of its environment, the state after
reset, and the reasons a step can stop. -/

namespace Sys2Proof.Machine

/-- The error codes of STATUS.ERR (60_exceptions R117). Codes 8 to 15 are reserved and never produced. -/
inductive ErrCode where
  | none
  | illegalCmd
  | invalidMask
  | checksumMismatch
  | genZero
  | busError
  | deviceUnresponsive
  | aborted
  deriving DecidableEq, Repr

/-- The fields of STATUS (10_state R24). Its reserved bits hold nothing and read 0. -/
structure Status where
  busy     : Bool
  done     : Bool
  written  : Bool
  ovr      : Bool
  err      : ErrCode
  attempts : BitVec 8
  deriving DecidableEq, Repr

/-- The fields of CFG (10_state R28). Its reserved bits hold nothing and read 0. -/
structure Cfg where
  strictMask    : Bool
  wrTwoTxn      : Bool
  wrHdrParity   : Bool
  rdHdrParity   : Bool
  wrAddrInCheck : Bool
  wrAddrPos     : BitVec 5
  deriving DecidableEq, Repr

/-- `L`, the snapshot taken at acceptance (10_state R36). -/
structure Snapshot where
  op     : BitVec 4
  raddr  : Addr7
  opa    : Word
  opb    : Word
  opc    : Word
  cfg    : Cfg
  dev    : Addr7
  settle : BitVec 8
  max    : BitVec 8
  deriving DecidableEq, Repr

/-- The values a completion step writes to RES0 and RES1 (10_state R27, R37). -/
structure Results where
  res0 : Word
  res1 : Word
  deriving DecidableEq, Repr

/-- The write transactions a procedure sends (43_register_transfer R101). -/
inductive Txn where
  /-- The address transaction of a read phase (R102). -/
  | address
  /-- The one transaction of a write, header and codeword (R108, WR_TWO_TXN = 0). -/
  | whole
  /-- The header transaction of a write (R108, WR_TWO_TXN = 1). -/
  | header
  /-- The codeword transaction of a write (R108, WR_TWO_TXN = 1). -/
  | codeword
  deriving DecidableEq, Repr

/-- The settle waits of a procedure (43_register_transfer R102, R108; 42_masked_accessor R95). -/
inductive Gap where
  /-- Between the address transaction and the first request. -/
  | afterAddress
  /-- Between a failed attempt and the next request. -/
  | retry
  /-- Between the read phase and the write phase of WRFLD. -/
  | beforeWrite
  /-- Between the two transactions of a two-transaction write. -/
  | betweenTxns
  /-- After the codeword transaction, before completion. -/
  | postWrite
  deriving DecidableEq, Repr

/-- The position of a bus command inside RUN: the primitive that is next, or the wait that is held (10_state R35). -/
inductive Pos where
  /-- `BusBegin` of a transaction is next. -/
  | beginTxn (t : Txn)
  /-- `BusWrite` of byte `i` of a transaction is next. -/
  | byte (t : Txn) (i : Nat)
  /-- `BusEnd` of a transaction is next. -/
  | endTxn (t : Txn)
  /-- A wait is held. -/
  | wait (g : Gap)
  /-- `BusRequest` is next. -/
  | request
  /-- The first `BusRead` of an attempt is next. -/
  | readHi
  /-- The second `BusRead` of an attempt is next. -/
  | readLo
  deriving DecidableEq, Repr

/-- The engine's position in the running command (10_state R35). -/
inductive Phase where
  | idle
  | exec
  | run (p : Pos)
  | finish (e : ErrCode) (res : Option Results)
  deriving DecidableEq, Repr

/-- One entry of the record of the bus port: a primitive the engine issued, with its response (20_memory R50), or the
mark of a reset, which cuts whatever transaction was open (70_reset_and_hazards R131). -/
inductive BusCall where
  | begun (dev : Addr7)
  | wrote (b : Byte) (ack : Bool)
  | ended (ok : Bool)
  | requested (dev : Addr7) (count : Fin 3)
  | gotByte (b : Byte)
  | cut
  deriving DecidableEq, Repr

/-- Everything the spec gives the block, and the model's own record of its environment. -/
structure State where
  /-- CMD's read value (10_state R23). -/
  cmd : Word
  /-- STATUS (10_state R24). -/
  status : Status
  /-- OPA (10_state R26). -/
  opa : Word
  /-- OPB (10_state R26). -/
  opb : Word
  /-- OPC (10_state R26). -/
  opc : Word
  /-- RES0 (10_state R27). -/
  res0 : Word
  /-- RES1 (10_state R27). -/
  res1 : Word
  /-- CFG (10_state R28). -/
  cfg : Cfg
  /-- DEVADDR[6:0] (10_state R30). -/
  devaddr : Addr7
  /-- TIMING.SETTLE_MS (10_state R31). -/
  settleMs : BitVec 8
  /-- RETRY.MAX_ATTEMPTS (10_state R32). -/
  maxAttempts : BitVec 8
  /-- `phase` (10_state R35). -/
  phase : Phase
  /-- `L` (10_state R36). -/
  snap : Snapshot
  /-- `abort_pending` (10_state R39). -/
  abortPending : Bool
  /-- `k`, the attempt counter (10_state R40). -/
  k : BitVec 8
  /-- `wcnt`, the remaining ticks of a wait (10_state R40). -/
  wcnt : BitVec 9
  /-- `terr`, a write-byte error seen in the current transaction (10_state R40). -/
  terr : Bool
  /-- `hi`, the first byte of the current response (10_state R40). -/
  hi : Byte
  /-- `lo`, the second byte of the current response (10_state R40). -/
  lo : Byte
  /-- `rv_old`, the register value read by WRFLD (10_state R40). -/
  rvOld : Val11
  /-- `newv`, the merged value of WRFLD (10_state R40). -/
  newv : Val11
  /-- The level of the input `rst` (70_reset_and_hazards R130). -/
  rst : Bool
  /-- The model's own: the moves placed for the agents, oldest first (log 2). -/
  agenda : List Event
  /-- The model's own: how many free moves have been taken (log 2). -/
  draws : Nat
  /-- The model's own: the word the last host read returned (log 8). -/
  readData : Word
  /-- The model's own: the bus port's record, newest first (log 8). -/
  busLog : List BusCall
  deriving DecidableEq, Repr

/-- CFG after reset, 0x00001001 (10_state R28). -/
def Cfg.reset : Cfg where
  strictMask := true
  wrTwoTxn := false
  wrHdrParity := false
  rdHdrParity := false
  wrAddrInCheck := false
  wrAddrPos := 16

/-- CFG with every field zero, as it stands in `L` after reset (10_state R36). -/
def Cfg.zero : Cfg where
  strictMask := false
  wrTwoTxn := false
  wrHdrParity := false
  rdHdrParity := false
  wrAddrInCheck := false
  wrAddrPos := 0

/-- `L` after reset: all zero (10_state R36). -/
def Snapshot.zero : Snapshot where
  op := 0
  raddr := 0
  opa := 0
  opb := 0
  opc := 0
  cfg := .zero
  dev := 0
  settle := 0
  max := 0

/-- STATUS after reset: 0 (10_state R24, R41). -/
def Status.reset : Status where
  busy := false
  done := false
  written := false
  ovr := false
  err := .none
  attempts := 0

/-- The block right after reset (10_state R41), with nothing placed, nothing drawn and nothing recorded. -/
def State.reset : State where
  cmd := 0
  status := .reset
  opa := 0
  opb := 0
  opc := 0
  res0 := 0
  res1 := 0
  cfg := .reset
  devaddr := 0
  settleMs := 10
  maxAttempts := 8
  phase := .idle
  snap := .zero
  abortPending := false
  k := 0
  wcnt := 0
  terr := false
  hi := 0
  lo := 0
  rvOld := 0
  newv := 0
  rst := false
  agenda := []
  draws := 0
  readData := 0
  busLog := []

/-- Why a step stops the run. Both are faults of the host program, which the spec tells a model to report so; the
block's state is unchanged by either. -/
inductive Fault where
  /-- Raised by a host access of another width than 32 bits or at an offset that is not a multiple of 4 (20_memory R43).
  Safe: the block takes no such access. -/
  | accessRefused
  /-- Raised by a host access while `rst` is asserted (70_reset_and_hazards R130). Safe: the block takes no such access. -/
  | accessInReset
  deriving DecidableEq, Repr

/-- Why the model gives an instruction no meaning. -/
inductive Refusal where
  /-- Raised by an arm of `exec` whose instruction has no meaning yet; no arm does. Safe. -/
  | notModelled (mnemonic : String)
  deriving DecidableEq, Repr

/-- The outcome of one step of this machine. -/
abbrev Result := Host.Outcome State Fault Refusal

end Sys2Proof.Machine
end

