-- ==== Sys2Proof/Machine/Flags.lean ====
section
/-! DEFINITION. The register words: how STATUS, CFG, DEVADDR, TIMING and RETRY read, and what a host write stores in
them (10_state R24 to R32). -/

namespace Sys2Proof.Machine

/-- The 4-bit code of STATUS.ERR (60_exceptions R117). -/
def ErrCode.code : ErrCode → BitVec 4
  | .none               => 0
  | .illegalCmd         => 1
  | .invalidMask        => 2
  | .checksumMismatch   => 3
  | .genZero            => 4
  | .busError           => 5
  | .deviceUnresponsive => 6
  | .aborted            => 7

/-- Whether an error leaves RES0 and RES1 as they were (60_exceptions R117, R118). -/
def ErrCode.fatal : ErrCode → Bool
  | .none               => false
  | .illegalCmd         => true
  | .invalidMask        => true
  | .checksumMismatch   => false
  | .genZero            => false
  | .busError           => true
  | .deviceUnresponsive => true
  | .aborted            => true

/-- STATUS as the host reads it (10_state R24). -/
def Status.toWord (st : Status) : Word :=
  (0#16 ++ st.attempts ++ st.err.code ++ BitVec.ofBool st.ovr ++ BitVec.ofBool st.written ++
    BitVec.ofBool st.done ++ BitVec.ofBool st.busy).setWidth 32

/-- A host write to STATUS: 1 in bit 1 clears DONE, 1 in bit 3 clears OVR, nothing else (10_state R25). -/
def Status.hostWrite (st : Status) (v : Word) : Status :=
  { st with done := st.done && !v.getLsbD 1, ovr := st.ovr && !v.getLsbD 3 }

/-- STATUS as acceptance leaves it: DONE, ERR, WRITTEN and ATTEMPTS cleared, OVR untouched (30_encoding R66). -/
def Status.cleared (st : Status) : Status :=
  { st with done := false, err := .none, written := false, attempts := 0 }

/-- STATUS as the completion step leaves it (10_state R37). -/
def Status.completed (st : Status) (e : ErrCode) : Status :=
  { st with err := e, busy := false, done := true }

/-- The legal value stored for a written `WR_ADDR_POS` (10_state R29). -/
def clampPos (p : BitVec 5) : BitVec 5 :=
  if p < wrAddrPosMin then wrAddrPosMin else if wrAddrPosMax < p then wrAddrPosMax else p

/-- CFG as the host reads it (10_state R28). -/
def Cfg.toWord (c : Cfg) : Word :=
  (0#19 ++ c.wrAddrPos ++ 0#3 ++ BitVec.ofBool c.wrAddrInCheck ++ BitVec.ofBool c.rdHdrParity ++
    BitVec.ofBool c.wrHdrParity ++ BitVec.ofBool c.wrTwoTxn ++ BitVec.ofBool c.strictMask).setWidth 32

/-- What a host write of `v` to CFG stores (10_state R28, R29). -/
def Cfg.ofWrite (v : Word) : Cfg where
  strictMask    := v.getLsbD 0
  wrTwoTxn      := v.getLsbD 1
  wrHdrParity   := v.getLsbD 2
  rdHdrParity   := v.getLsbD 3
  wrAddrInCheck := v.getLsbD 4
  wrAddrPos     := clampPos (v.extractLsb' 8 5)

/-- What a host write of `v` to RETRY stores: 0 is stored as 1 (10_state R32). -/
def retryOfWrite (v : Word) : BitVec 8 :=
  let n : BitVec 8 := v.setWidth 8
  if n = 0 then 1 else n

/-- An attempt counter one higher, saturating at 255 (10_state R24). -/
def satSucc (k : BitVec 8) : BitVec 8 := if k = 255 then 255 else k + 1

end Sys2Proof.Machine
end

