-- ==== Sys2Proof/Machine/Operands.lean ====
section
/-! DEFINITION. The operand forms: which bits of the snapshot a command reads (10_state R26, 30_encoding R61), and the
mask functions of the accessor (42_masked_accessor R90 to R92). -/

namespace Sys2Proof.Machine

/-- The value operand of ENC, WRREG and WRFLD: OPA[10:0] (10_state R26). -/
def Snapshot.value (l : Snapshot) : Val11 := l.opa.setWidth 11

/-- The received word of DEC: OPA[15:0] (10_state R26). -/
def Snapshot.received (l : Snapshot) : Codeword := l.opa.setWidth 16

/-- `mask_eff`: OPB[10:0] (42_masked_accessor R90). -/
def maskEff (x : Word) : Val11 := x.setWidth 11

/-- The mask operand of RDFLD and WRFLD (10_state R26). -/
def Snapshot.mask (l : Snapshot) : Val11 := maskEff l.opb

/-- The 0-indexed position of the least significant 1 of `m`, looked for from bit `i` upwards for `fuel` bits; 0 when
there is none. -/
def ctzFrom {w : Nat} (m : BitVec w) : Nat → Nat → Nat
  | 0, _        => 0
  | fuel + 1, i => if m.getLsbD i then i else ctzFrom m fuel (i + 1)

/-- `ctz(m)`, with `ctz(0) = 0` (00_scope R14). -/
def ctz {w : Nat} (m : BitVec w) : Nat := ctzFrom m w 0

/-- `contiguous(m)`: the set bits form one unbroken run; false for 0 (00_scope R16). The sum is taken one bit wider, so
that nothing is lost when the run reaches the top bit. -/
def contiguous (m : Val11) : Bool :=
  let r : BitVec 12 := (m >>> ctz m).setWidth 12
  m != 0 && (r + 1) &&& r == 0

/-- `mask_ok(m)` (42_masked_accessor R90). -/
def maskOk (m : Val11) : Bool := m != 0 && contiguous m

/-- `field_extract(rv, m)` (42_masked_accessor R91). -/
def fieldExtract (rv m : Val11) : Val11 := (rv &&& m) >>> ctz m

/-- `field_merge(cur, m, val)`: the value is used in place (42_masked_accessor R92). -/
def fieldMerge (cur m val : Val11) : Val11 := (cur &&& ~~~m) ||| (val &&& m)

/-- The OP values (30_encoding R62). -/
def opCrc   : BitVec 4 := 1
def opEnc   : BitVec 4 := 2
def opDec   : BitVec 4 := 3
def opRdreg : BitVec 4 := 4
def opWrreg : BitVec 4 := 5
def opRdfld : BitVec 4 := 6
def opWrfld : BitVec 4 := 7

/-- CRC, ENC and DEC (30_encoding R62). -/
def isPureOp (op : BitVec 4) : Bool := op == opCrc || op == opEnc || op == opDec

/-- RDREG, WRREG, RDFLD and WRFLD (30_encoding R62). -/
def isBusOp (op : BitVec 4) : Bool := op == opRdreg || op == opWrreg || op == opRdfld || op == opWrfld

/-- RDFLD and WRFLD, the commands that use a mask (30_encoding R66). -/
def isMaskOp (op : BitVec 4) : Bool := op == opRdfld || op == opWrfld

end Sys2Proof.Machine
end

