-- ==== Sys2Proof/Machine/Ops.lean ====
section
/-! DEFINITION. The shared operations: acceptance, dropping, raising an error, completion, the record of the bus port,
and reset. The block raises no trap (60_exceptions R116): raising an error and the completion step are its form of taking
an exception, and nothing returns from one (R120). -/

namespace Sys2Proof.Machine

namespace State

/-- The engine moves to `p`. -/
def goto (s : State) (p : Phase) : State := { s with phase := p }

/-- A primitive and its response enter the record of the bus port. -/
def logBus (s : State) (c : BusCall) : State := { s with busLog := c :: s.busLog }

/-- A normal end, or an advisory error: the completion step is next and will write the results
(43_register_transfer R98, 60_exceptions R118). -/
def finishWith (s : State) (e : ErrCode) (res : Results) : State := s.goto (.finish e (some res))

/-- `raise E`: the command ends with a fatal error; the completion step is next and writes no result
(43_register_transfer R98, 60_exceptions R118). -/
def raise (s : State) (e : ErrCode) : State := s.goto (.finish e none)

/-- The completion step, taken from `FINISH(e, res)` (10_state R37). -/
def complete (s : State) (e : ErrCode) (res : Option Results) : State :=
  { s with
    res0 := (res.map Results.res0).getD s.res0
    res1 := (res.map Results.res1).getD s.res1
    status := s.status.completed e
    abortPending := false
    phase := .idle }

/-- A CMD write while BUSY = 1 is dropped and sets OVR (10_state R38). -/
def dropCmd (s : State) : State := { s with status := { s.status with ovr := true } }

/-- What every acceptance does first (30_encoding R66). -/
def beginAccept (s : State) (w : Word) : State :=
  { s with cmd := w, status := s.status.cleared, abortPending := false }

/-- A command that completes in its acceptance step: BUSY stays 0 (30_encoding R66). -/
def refuseCmd (s : State) (e : ErrCode) : State :=
  { s with status := { s.status with err := e, done := true } }

/-- `L <- snapshot(...)` for a command with these fields (10_state R36). -/
def takeSnapshot (s : State) (op : BitVec 4) (a : Addr7) : State :=
  { s with
    snap :=
      { op := op, raddr := a, opa := s.opa, opb := s.opb, opc := s.opc, cfg := s.cfg
        dev := s.devaddr, settle := s.settleMs, max := s.maxAttempts } }

/-- BUSY is set and the command starts at phase `p` (30_encoding R66). -/
def startCmd (s : State) (p : Phase) : State :=
  { s with status := { s.status with busy := true }, phase := p }

/-- `abort_pending <- 1` while a bus command runs; otherwise nothing (10_state R39, 44_control R113). -/
def requestAbort (s : State) : State :=
  if s.status.busy && isBusOp s.snap.op then { s with abortPending := true } else s

/-- The RESET step: every piece of block state takes its reset value (70_reset_and_hazards R130, R131). The moves still
to come and what the outside has recorded are not the block's; the record is marked, since whatever transaction was open
stays so. -/
def resetTo (s : State) (level : Bool) : State :=
  { State.reset with
    rst := level
    agenda := s.agenda
    draws := s.draws
    readData := s.readData
    busLog := .cut :: s.busLog }

end State

/-- The mask check of acceptance (30_encoding R66, 42_masked_accessor R93). -/
def maskRefused (l : Snapshot) : Bool := isMaskOp l.op && l.cfg.strictMask && !maskOk l.mask

/-- The first transaction of a write phase (43_register_transfer R108). -/
def firstWriteTxn (c : Cfg) : Txn := if c.wrTwoTxn then .header else .whole

/-- Where a command starts: EXEC for a pure command, else the first primitive of its procedure (30_encoding R66;
43_register_transfer R102, R108). -/
def startPhase (l : Snapshot) : Phase :=
  if isPureOp l.op then .exec
  else if l.op = opWrreg then .run (.beginTxn (firstWriteTxn l.cfg))
  else .run (.beginTxn .address)

/-- Acceptance of a legal command word, from BUSY = 0 (30_encoding R66). -/
def acceptCmd (i : Instr) (s : State) : State :=
  let s := (s.beginAccept (encode i)).takeSnapshot i.op i.raddr
  if maskRefused s.snap then s.refuseCmd .invalidMask else s.startCmd (startPhase s.snap)

/-- The host writes the word of command `i` to CMD (30_encoding R66, 60_exceptions R119). -/
def issue (i : Instr) (s : State) : State :=
  if s.status.busy then s.dropCmd else acceptCmd i s

/-- The host writes an illegal word to CMD (30_encoding R64, R66, 60_exceptions R119). -/
def issueIllegal (w : Word) (s : State) : State :=
  if s.status.busy then s.dropCmd else (s.beginAccept w).refuseCmd .illegalCmd

end Sys2Proof.Machine
end

