-- ==== Sys2Proof/Machine/Gf2.lean ====
section
/-! DEFINITION. The checksum function: GF(2) polynomial long division (40_checksum_engine R77 to R81). -/

namespace Sys2Proof.Machine

/-- The 1-indexed position of the most significant 1 among the low `n` bits of `x`; 0 when there is none. -/
def bitlenBelow {w : Nat} (x : BitVec w) : Nat → Nat
  | 0     => 0
  | i + 1 => if x.getLsbD i then i + 1 else bitlenBelow x i

/-- `bitlen(x)` (00_scope R13). -/
def bitlen {w : Nat} (x : BitVec w) : Nat := bitlenBelow x w

/-- One division step: the generator, shifted so that its top 1 meets the working word's, is added, which clears the
working word's most significant 1 (40_checksum_engine R78). -/
def divStep (gen w : BitVec 64) : BitVec 64 := w ^^^ (gen <<< (bitlen w - bitlen gen))

/-- The division loop, for at most `fuel` steps: it ends when no bit at position `n` or above is set
(40_checksum_engine R77). -/
def divLoop (gen : BitVec 64) (n : Nat) : Nat → BitVec 64 → BitVec 64
  | 0, w        => w
  | fuel + 1, w => if w >>> n = 0 then w else divLoop gen n fuel (divStep gen w)

/-- The working word the division starts from: the message above the low `n` bits of the filler
(40_checksum_engine R77, R79). -/
def workWord (m f : Word) (n : Nat) : BitVec 64 :=
  (m.setWidth 64 <<< n) ||| (f.setWidth 64 &&& BitVec.ofNat 64 (2 ^ n - 1))

/-- `checksum(m, gen, f)` (40_checksum_engine R77). A zero generator returns the filler (R80). The loop runs at most
`bitlen(m) ≤ 32` times (R81), so 32 steps of fuel are all it can use. -/
def checksum (m gen f : Word) : Word :=
  if bitlen gen = 0 then f
  else
    let n := bitlen gen - 1
    (divLoop (gen.setWidth 64) n 32 (workWord m f n)).setWidth 32

end Sys2Proof.Machine
end

