-- ==== Sys2Proof/Machine/Wire.lean ====
section
/-! DEFINITION. The wire formats and the two codec functions (30_encoding R68 to R73, 41_register_codec R85, R86). -/

namespace Sys2Proof.Machine

/-- `par7(a)`: the XOR of the seven bits (00_scope R15). -/
def par7 (a : Addr7) : Bool :=
  a.getLsbD 0 ^^ a.getLsbD 1 ^^ a.getLsbD 2 ^^ a.getLsbD 3 ^^ a.getLsbD 4 ^^ a.getLsbD 5 ^^ a.getLsbD 6

/-- A header byte: the register address, with its parity in bit 7 when enabled (30_encoding R70). -/
def header (parity : Bool) (a : Addr7) : Byte := (BitVec.ofBool (parity && par7 a) ++ a).setWidth 8

/-- `hdr_wr(a)` (30_encoding R70). -/
def hdrWr (c : Cfg) (a : Addr7) : Byte := header c.wrHdrParity a

/-- `hdr_rd(a)` (30_encoding R70). -/
def hdrRd (c : Cfg) (a : Addr7) : Byte := header c.rdHdrParity a

/-- `cmr(v)`, the read check message (30_encoding R71). -/
def cmr (v : Val11) : Word :=
  (((v.setWidth 16 <<< 5) &&& (0xFF00 : BitVec 16)) ||| (v.setWidth 16 &&& (0x0007 : BitVec 16))).setWidth 32

/-- `cmw(a, v)`, the write check message (30_encoding R72). -/
def cmw (c : Cfg) (a : Addr7) (v : Val11) : Word :=
  cmr v ||| (if c.wrAddrInCheck then a.setWidth 32 <<< c.wrAddrPos.toNat else 0)

/-- The write codeword `(v << 5) | 0x18 | chk` (30_encoding R68). -/
def codeword (v : Val11) (chk : Chk) : Codeword := (v.setWidth 16 <<< 5) ||| framing ||| chk.setWidth 16

/-- What `encode_write` returns. -/
structure Encoded where
  hdr : Byte
  cw  : Codeword
  chk : Chk
  deriving DecidableEq, Repr

/-- `encode_write(a, v, cfg)` (41_register_codec R85). -/
def encodeWrite (c : Cfg) (a : Addr7) (v : Val11) : Encoded :=
  let chk : Chk := (checksum (cmw c a v) codecGen 0).setWidth 3
  { hdr := hdrWr c a, cw := codeword v chk, chk := chk }

/-- What `decode_read` returns. -/
structure Decoded where
  rv   : Val11
  chk  : Chk
  synd : Chk
  ok   : Bool
  deriving DecidableEq, Repr

/-- `decode_read(w)` (41_register_codec R86). Bits 4:3 take part in nothing (30_encoding R69). -/
def decodeRead (w : Codeword) : Decoded :=
  let rv : Val11 := w.extractLsb' 5 11
  let chk : Chk := w.extractLsb' 0 3
  let synd : Chk := (checksum (cmr rv) codecGen (chk.setWidth 32)).setWidth 3
  { rv := rv, chk := chk, synd := synd, ok := synd == 0 }

end Sys2Proof.Machine
end

