-- ==== Sys2Proof/Machine/Accessor.lean ====
section
/-! DEFINITION. The RDFLD and WRFLD commands (42_masked_accessor R94, R95). Their read and write phases are those of
Machine/Transfer.lean. -/

namespace Sys2Proof.Machine

/-- RES0 and RES1 of RDFLD, for the register value read: the field right-aligned, and the whole value
(42_masked_accessor R94). -/
def rdfldResults (l : Snapshot) (rv : Val11) : Results where
  res0 := (fieldExtract rv l.mask).setWidth 32
  res1 := rv.setWidth 32

/-- The value WRFLD writes back, for the register value read (42_masked_accessor R95). -/
def wrfldMerged (l : Snapshot) (rv : Val11) : Val11 := fieldMerge rv l.mask l.value

/-- RES0 and RES1 of WRFLD: the new value; codeword in [31:16], old value in [10:0] (42_masked_accessor R95). -/
def wrfldResults (l : Snapshot) (rvOld newv : Val11) : Results where
  res0 := newv.setWidth 32
  res1 := ((encodeWrite l.cfg l.raddr newv).cw.setWidth 32 <<< 16) ||| rvOld.setWidth 32

/-- RDFLD a: the host writes its word to CMD (42_masked_accessor R94). A mask that fails the strict check ends the
command in this step (R93). -/
def execRdfld (a : Addr7) (s : State) : Result := .next (issue (.rdfld a) s)

/-- WRFLD a: the host writes its word to CMD (42_masked_accessor R95). A mask that fails the strict check ends the
command in this step (R93). -/
def execWrfld (a : Addr7) (s : State) : Result := .next (issue (.wrfld a) s)

end Sys2Proof.Machine
end

