-- ==== Sys2Proof/Machine/Checksum.lean ====
section
/-! DEFINITION. The CRC command (40_checksum_engine R84). -/

namespace Sys2Proof.Machine

/-- The results of CRC: the remainder and `bitlen` of the generator (40_checksum_engine R84). -/
def crcResults (l : Snapshot) : Results where
  res0 := checksum l.opa l.opb l.opc
  res1 := BitVec.ofNat 32 (bitlen l.opb)

/-- GEN_ZERO, advisory, for a zero generator (40_checksum_engine R84). -/
def crcError (l : Snapshot) : ErrCode := if l.opb = 0 then .genZero else .none

/-- The EXEC step of CRC (40_checksum_engine R84). -/
def crcStep (s : State) : State := s.finishWith (crcError s.snap) (crcResults s.snap)

/-- CRC: the host writes 0x00000001 to CMD; the engine's EXEC step is `crcStep` (40_checksum_engine R84). -/
def execCrc (s : State) : Result := .next (issue .crc s)

end Sys2Proof.Machine
end

