-- ==== Sys2Proof/Machine/Codec.lean ====
section
/-! DEFINITION. The ENC and DEC commands (41_register_codec R88, R89). -/

namespace Sys2Proof.Machine

/-- RES0 and RES1 of ENC and WRREG: the codeword; check in [10:8], header in [7:0] (10_state R27). -/
def encodedResults (e : Encoded) : Results where
  res0 := e.cw.setWidth 32
  res1 := (e.chk ++ e.hdr).setWidth 32

/-- RES0 and RES1 of DEC: the value; valid in [8], syndrome in [6:4], check in [2:0] (10_state R27, 90_conflicts C11). -/
def decodedResults (d : Decoded) : Results where
  res0 := d.rv.setWidth 32
  res1 := (BitVec.ofBool d.ok ++ 0#1 ++ d.synd ++ 0#1 ++ d.chk).setWidth 32

/-- The EXEC step of ENC (41_register_codec R88). -/
def encStep (s : State) : State :=
  s.finishWith .none (encodedResults (encodeWrite s.snap.cfg s.snap.raddr s.snap.value))

/-- The EXEC step of DEC: a mismatch is advisory (41_register_codec R89). -/
def decStep (s : State) : State :=
  let d := decodeRead s.snap.received
  s.finishWith (if d.ok then .none else .checksumMismatch) (decodedResults d)

/-- ENC a: the host writes its word to CMD; the engine's EXEC step is `encStep` (41_register_codec R88). -/
def execEnc (a : Addr7) (s : State) : Result := .next (issue (.enc a) s)

/-- DEC: the host writes 0x00000003 to CMD; the engine's EXEC step is `decStep` (41_register_codec R89). -/
def execDec (s : State) : Result := .next (issue .dec s)

end Sys2Proof.Machine
end

