-- ==== Sys2Proof/Machine/Control.lean ====
section
/-! DEFINITION. The ABORT control (44_control R113 to R115). -/

namespace Sys2Proof.Machine

/-- ABORT: the host writes CTRL with bit 0 = 1. It is never refused, and does nothing unless a bus command runs
(44_control R113). -/
def execAbort (s : State) : Result := .next s.requestAbort

end Sys2Proof.Machine
end

