-- ==== Sys2Proof/Machine/Transfer.lean ====
section
/-! DEFINITION. The procedures of the bus commands as engine steps: settle waits, write transactions, the retry read
loop and the write phase (43_register_transfer R98 to R110), and the RDREG and WRREG commands (R111, R112). -/

namespace Sys2Proof.Machine

/-- RES0 and RES1 of RDREG: the value and the accepted raw word (43_register_transfer R111). -/
def rdregResults (rv : Val11) (w : Codeword) : Results where
  res0 := rv.setWidth 32
  res1 := w.setWidth 32

namespace State

/-- The value the write phase sends: the merged value for WRFLD, OPA[10:0] for WRREG (42_masked_accessor R95,
43_register_transfer R112). -/
def writeValue (s : State) : Val11 := if s.snap.op = opWrfld then s.newv else s.snap.value

/-- `(hdr, cw, chk) <- encode_write(a, v, L.cfg)` of the write phase (43_register_transfer R108). `L` and the value stand
still during the phase, so every step of it computes the same. -/
def writeEncoded (s : State) : Encoded := encodeWrite s.snap.cfg s.snap.raddr s.writeValue

/-- What a finished write phase gives RES0 and RES1 (42_masked_accessor R95, 43_register_transfer R112). -/
def writeResults (s : State) : Results :=
  if s.snap.op = opWrfld then wrfldResults s.snap s.rvOld s.newv else encodedResults s.writeEncoded

end State

/-- Whether a wait is called with `abortable = 1` (43_register_transfer R102, R108; 42_masked_accessor R95; 44_control
R114). -/
def Gap.abortable : Gap → Bool
  | .afterAddress => true
  | .retry        => true
  | .beforeWrite  => true
  | .betweenTxns  => false
  | .postWrite    => false

/-- What follows a wait. The last wait ends the command. -/
def afterWait (g : Gap) (s : State) : State :=
  match g with
  | .afterAddress => s.goto (.run .request)
  | .retry        => s.goto (.run .request)
  | .beforeWrite  => s.goto (.run (.beginTxn (firstWriteTxn s.snap.cfg)))
  | .betweenTxns  => s.goto (.run (.beginTxn .codeword))
  | .postWrite    => s.finishWith .none s.writeResults

/-- `WaitSettle`, from the step before it: no wait at all when `L.settle = 0`, else `L.settle + 1` ticks are held
(43_register_transfer R100). The safe point at its entry is taken by the engine's next step (log 6). -/
def enterWait (g : Gap) (s : State) : State :=
  if s.snap.settle = 0 then afterWait g s
  else { s with wcnt := s.snap.settle.setWidth 9 + 1, phase := .run (.wait g) }

/-- One tick of a held wait; the tick that brings `wcnt` to 0 ends it (43_register_transfer R100, log 5). -/
def tickWait (g : Gap) (s : State) : State :=
  if s.wcnt ≤ 1 then afterWait g { s with wcnt := 0 } else { s with wcnt := s.wcnt - 1 }

/-- The bytes of a transaction, in sending order (43_register_transfer R102, R108; 20_memory R53). -/
def txnBytes (t : Txn) (s : State) : List Byte :=
  let hi : Byte := s.writeEncoded.cw.extractLsb' 8 8
  let lo : Byte := s.writeEncoded.cw.extractLsb' 0 8
  match t with
  | .address  => [hdrRd s.snap.cfg s.snap.raddr]
  | .whole    => [s.writeEncoded.hdr, hi, lo]
  | .header   => [s.writeEncoded.hdr]
  | .codeword => [hi, lo]

/-- Whether a safe point stands before the transaction's `BusBegin`: at the start of a read phase and of a write phase,
not before the second transaction of a write (44_control R114). -/
def Txn.safePoint : Txn → Bool
  | .address  => true
  | .whole    => true
  | .header   => true
  | .codeword => false

/-- What follows a transaction that raised nothing. The one that carries the codeword sets WRITTEN
(43_register_transfer R102, R108, R109). -/
def afterTxn (t : Txn) (s : State) : State :=
  match t with
  | .address  => enterWait .afterAddress { s with k := 0 }
  | .header   => enterWait .betweenTxns s
  | .whole    => enterWait .postWrite { s with status := { s.status with written := true } }
  | .codeword => enterWait .postWrite { s with status := { s.status with written := true } }

/-- What follows a valid response (43_register_transfer R111; 42_masked_accessor R94, R95). -/
def readDone (rv : Val11) (w : Codeword) (s : State) : State :=
  if s.snap.op = opRdfld then s.finishWith .none (rdfldResults s.snap rv)
  else if s.snap.op = opWrfld then
    enterWait .beforeWrite { s with rvOld := rv, newv := wrfldMerged s.snap rv }
  else s.finishWith .none (rdregResults rv w)

/-- `SafePoint()`: a pending abort is raised in place of the action (43_register_transfer R99). -/
def atSafePoint (s act : State) : State := if s.abortPending then s.raise .aborted else act

/-- The `BusBegin` step of a transaction (43_register_transfer R101). -/
def beginStep (t : Txn) (s : State) : State :=
  let act := { s.logBus (.begun s.snap.dev) with terr := false, phase := .run (.byte t 0) }
  if t.safePoint then atSafePoint s act else act

/-- A `BusWrite` step. After a NACK the remaining bytes are not sent (43_register_transfer R101). A transaction has no
byte beyond its last: no step (log 16). -/
def byteStep (t : Txn) (i : Nat) (r : BusReply) (s : State) : State :=
  match (txnBytes t s)[i]? with
  | none => s
  | some b =>
    let s := s.logBus (.wrote b r.ack)
    if r.ack then
      if i + 1 < (txnBytes t s).length then s.goto (.run (.byte t (i + 1))) else s.goto (.run (.endTxn t))
    else { s with terr := true, phase := .run (.endTxn t) }

/-- The `BusEnd` step of a transaction (43_register_transfer R101). -/
def endStep (t : Txn) (r : BusReply) (s : State) : State :=
  let s := s.logBus (.ended r.ack)
  if s.terr || !r.ack then s.raise .busError else afterTxn t s

/-- A held wait: the engine has no step, except to raise ABORTED in an abortable one (43_register_transfer R98 to
R100). That step needs no tick, so it ends the wait even when ticks have stopped, where 60_exceptions R129 has only a
reset end the hold: DEDUCED, from R99, R100 and 44_control R114 (log 23). -/
def waitStep (g : Gap) (s : State) : State := if g.abortable then atSafePoint s s else s

/-- The `BusRequest` step: it counts the attempt; a short answer is a transport failure (43_register_transfer R102,
R104, R107). A pending abort replaces it (R99); that this step too comes only with the transport's answer, so that an
abort does not end the hold of a silent transport before a request, is DEDUCED from 20_memory R54 (log 24). -/
def requestStep (r : BusReply) (s : State) : State :=
  let n := satSucc s.k
  let asked := { s.logBus (.requested s.snap.dev r.count) with k := n, status := { s.status with attempts := n } }
  atSafePoint s (if r.count.val < readCount then asked.raise .busError else asked.goto (.run .readHi))

/-- The first `BusRead` step of an attempt (43_register_transfer R102). -/
def readHiStep (r : BusReply) (s : State) : State :=
  { s.logBus (.gotByte r.byte) with hi := r.byte, phase := .run .readLo }

/-- The second `BusRead` step of an attempt: the response is decoded, and the loop ends, gives up or waits to retry
(43_register_transfer R102, R103, R105). -/
def readLoStep (r : BusReply) (s : State) : State :=
  let s := { s.logBus (.gotByte r.byte) with lo := r.byte }
  let w : Codeword := (s.hi ++ s.lo).setWidth 16
  let d := decodeRead w
  if d.ok then readDone d.rv w s
  else if s.snap.max ≤ s.k then s.raise .deviceUnresponsive
  else enterWait .retry s

/-- The step of a primitive that has a response is enabled only once the transport answers it; until then the engine is
held, and an abort cannot end the hold (20_memory R54, 60_exceptions R129). -/
def onAnswer (r : Option BusReply) (act : BusReply → State → State) (s : State) : State :=
  match r with
  | none   => s
  | some a => act a s

/-- One engine step of a bus command at position `p`, with the transport's answer `r` to the primitive that is next.
`BusBegin` has no response (20_memory R50) and a held wait has no primitive, so neither awaits an answer. -/
def busStep (p : Pos) (r : Option BusReply) (s : State) : State :=
  match p with
  | .beginTxn t => beginStep t s
  | .byte t i   => onAnswer r (byteStep t i) s
  | .endTxn t   => onAnswer r (endStep t) s
  | .wait g     => waitStep g s
  | .request    => onAnswer r requestStep s
  | .readHi     => onAnswer r readHiStep s
  | .readLo     => onAnswer r readLoStep s

/-- RDREG a: the host writes its word to CMD; the procedure is the read phase from its address transaction
(43_register_transfer R111). -/
def execRdreg (a : Addr7) (s : State) : Result := .next (issue (.rdreg a) s)

/-- WRREG a: the host writes its word to CMD; the procedure is the write phase (43_register_transfer R112). -/
def execWrreg (a : Addr7) (s : State) : Result := .next (issue (.wrreg a) s)

end Sys2Proof.Machine
end

