-- ==== Sys2Proof/Machine/Dispatch.lean ====
section
/-! DEFINITION. The meaning of each instruction, by constructor. -/

namespace Sys2Proof.Machine

def exec (i : Instr) (s : State) : Host.Outcome State Fault Refusal :=
  match i with
  | .crc => Sys2Proof.Machine.execCrc s
  | .enc a => Sys2Proof.Machine.execEnc a s
  | .dec => Sys2Proof.Machine.execDec s
  | .rdreg a => Sys2Proof.Machine.execRdreg a s
  | .wrreg a => Sys2Proof.Machine.execWrreg a s
  | .rdfld a => Sys2Proof.Machine.execRdfld a s
  | .wrfld a => Sys2Proof.Machine.execWrfld a s
  | .abort => Sys2Proof.Machine.execAbort s

end Sys2Proof.Machine
end

