-- ==== Sys2Proof/Machine/HostPort.lean ====
section
/-! DEFINITION. The host register window (20_memory R42 to R46, 10_state R22). -/

namespace Sys2Proof.Machine

/-- The register at a window offset, as a host read returns it (10_state R22). No read has a side effect on the block
(20_memory R45). -/
def regRead (off : BitVec 6) (s : State) : Word :=
  match off.toNat with
  | 0x00 => s.cmd
  | 0x04 => s.status.toWord
  | 0x08 => s.opa
  | 0x0C => s.opb
  | 0x10 => s.opc
  | 0x14 => s.res0
  | 0x18 => s.res1
  | 0x1C => s.cfg.toWord
  | 0x20 => s.devaddr.setWidth 32
  | 0x24 => s.settleMs.setWidth 32
  | 0x28 => s.maxAttempts.setWidth 32
  | 0x2C => 0
  | 0x30 => idWord
  | _    => 0

/-- A word written to CMD: a legal one is the instruction it encodes, any other is refused as illegal
(30_encoding R66). -/
def writeCmd (v : Word) (s : State) : Result :=
  match decodeCmd v with
  | .ok i    => exec i s
  | .error _ => .next (issueIllegal v s)

/-- A word written to CTRL: ABORT when bit 0 is 1, else nothing (10_state R33). -/
def writeCtrl (v : Word) (s : State) : Result :=
  match decodeCtrl v with
  | .ok i    => exec i s
  | .error _ => .next s

/-- A host write of `v` at a window offset (20_memory R45). Writes to RES0, RES1, ID and reserved offsets are ignored. -/
def regWrite (off : BitVec 6) (v : Word) (s : State) : Result :=
  match off.toNat with
  | 0x00 => writeCmd v s
  | 0x04 => .next { s with status := s.status.hostWrite v }
  | 0x08 => .next { s with opa := v }
  | 0x0C => .next { s with opb := v }
  | 0x10 => .next { s with opc := v }
  | 0x1C => .next { s with cfg := .ofWrite v }
  | 0x20 => .next { s with devaddr := v.setWidth 7 }
  | 0x24 => .next { s with settleMs := v.setWidth 8 }
  | 0x28 => .next { s with maxAttempts := retryOfWrite v }
  | 0x2C => writeCtrl v s
  | _    => .next s

/-- The HOST step: one access of the window (20_memory R42, R43, R46). -/
def hostStep (a : HostAccess) (s : State) : Result :=
  if s.rst then .fault .accessInReset
  else if !a.wf then .fault .accessRefused
  else
    match a.op with
    | .read    => .next { s with readData := regRead a.offset s }
    | .write v => regWrite a.offset v s

/-- The access a host makes of an address of its own: it reaches the block only inside the window (20_memory R42). -/
def accessAt (addr width : Nat) (op : HostOp) : Option HostAccess :=
  (Config.windowOffset addr).map fun off => ⟨off, width, op⟩

/-- The window offsets instructions are written to (30_encoding R59, R65). -/
def portOffset : Port → BitVec 6
  | .cmd  => 0x00
  | .ctrl => 0x2C

/-- The 32-bit write of `v` to the register a port names. -/
def portWrite (p : Port) (v : Word) : HostAccess := ⟨portOffset p, 4, .write v⟩

end Sys2Proof.Machine
end

