-- ==== Sys2Proof/Machine/Agents.lean ====
section
/-! DEFINITION. The steps of the agents (10_state R20): ENGINE, TICK and RESET beside the HOST step, and which move is
next. A move whose agent has no step enabled leaves the state as it is (log 3). -/

namespace Sys2Proof.Machine

/-- The EXEC step of the pure command in `L` (30_encoding R67). No other command is ever in EXEC (log 16). -/
def pureStep (s : State) : State :=
  if s.snap.op = opCrc then crcStep s
  else if s.snap.op = opEnc then encStep s
  else if s.snap.op = opDec then decStep s
  else s

/-- The ENGINE step, with the BUS agent's answer, if any, to the primitive that is next (10_state R20, R35). While `rst`
is asserted the block takes none (70_reset_and_hazards R130). -/
def engineStep (r : Option BusReply) (s : State) : State :=
  if s.rst then s
  else
    match s.phase with
    | .idle         => s
    | .exec         => pureStep s
    | .run p        => busStep p r s
    | .finish e res => s.complete e res

/-- The TICK step: ticks outside a wait are ignored (60_exceptions R124). While `rst` is asserted the block takes none
(70_reset_and_hazards R130). -/
def tickStep (s : State) : State :=
  if s.rst then s
  else
    match s.phase with
    | .run (.wait g) => tickWait g s
    | _              => s

/-- One move of one agent. -/
def perform (e : Event) (s : State) : Result :=
  match e with
  | .host a    => hostStep a s
  | .engine r  => .next (engineStep r s)
  | .tick      => .next (tickStep s)
  | .reset     => .next (s.resetTo false)
  | .rst true  => .next (s.resetTo true)
  | .rst false => .next { s with rst := false }

/-- Moves in order, up to the first that stops. -/
def performAll : List Event → State → Result
  | [], s      => .next s
  | e :: es, s =>
    match perform e s with
    | .next t    => performAll es t
    | .fault f   => .fault f
    | .refused r => .refused r

/-- The move that comes next and the state without it: the oldest placed one, or a free one when none is placed
(log 2). -/
def nextEvent (s : State) : Event × State :=
  match s.agenda with
  | e :: es => (e, { s with agenda := es })
  | []      => (Config.freeEvent s.draws, { s with draws := s.draws + 1 })

end Sys2Proof.Machine
end

