-- ==== Sys2Proof/Machine/Step.lean ====
section
/-! DEFINITION. One step of the machine, and where an instruction is placed so that the next step runs it. -/

namespace Sys2Proof.Machine

/-- One step: the next move of the agents is taken and performed (10_state R20). -/
def step (s : State) : Host.Outcome State Fault Refusal :=
  perform (nextEvent s).1 (nextEvent s).2

/-- `s` with the host's write of an instruction placed as the next move (log 11). The word goes to CTRL when the table
gives the row fewer than 32 bits, else to CMD (log 4); `rst` is deasserted, since no host access is served under it. -/
def State.withFetchWord (s : State) (nbits w : Nat) : State :=
  { s with
    rst := false
    agenda := .host (portWrite (tablePort nbits) (BitVec.ofNat 32 w)) :: s.agenda }

end Sys2Proof.Machine
end

