-- ==== Sys2Proof/Safety.lean ====
section
/-! DEFINITION. What claims are stated in: the invariant of the block, what the bus port's record must look like, the
moves of a schedule, and how far a running command is from its end. -/

namespace Sys2Proof.Safety

open Sys2Proof.Machine

/-! ### The bus port's record (20_memory R51). The record is newest first. -/

/-- A transaction is open: begun, not ended and not cut by a reset. -/
def txnOpen : List BusCall → Bool
  | []                 => false
  | .begun _ :: _      => true
  | .ended _ :: _      => false
  | .cut :: _          => false
  | .wrote _ _ :: l    => txnOpen l
  | .requested _ _ :: l => txnOpen l
  | .gotByte _ :: l    => txnOpen l

/-- The bytes of the last request's answer that are not read yet. -/
def bytesDue : List BusCall → Nat
  | .requested _ c :: _ => c.val
  | .gotByte _ :: l     => bytesDue l - 1
  | _                   => 0

/-- A record the engine may leave: a `BusBegin` only when no transaction is open, a `BusWrite` and a `BusEnd` only
inside one, a `BusRequest` only outside, and a `BusRead` only for a byte the answer covers (20_memory R51). -/
def busOk : List BusCall → Bool
  | []                  => true
  | .begun _ :: l       => !txnOpen l && busOk l
  | .wrote _ _ :: l     => txnOpen l && busOk l
  | .ended _ :: l       => txnOpen l && busOk l
  | .requested _ _ :: l => !txnOpen l && busOk l
  | .gotByte _ :: l     => decide (0 < bytesDue l) && !txnOpen l && busOk l
  | .cut :: l           => busOk l

/-- The number of `BusRequest` primitives in a record. -/
def requests : List BusCall → Nat
  | []                  => 0
  | .requested _ _ :: l => requests l + 1
  | _ :: l              => requests l

/-! ### The invariant -/

/-- The commands with a read phase. -/
def hasReadPhase (op : BitVec 4) : Bool := op == opRdreg || op == opRdfld || op == opWrfld

/-- The commands with a write phase. -/
def hasWritePhase (op : BitVec 4) : Bool := op == opWrreg || op == opWrfld

/-- The positions a transaction has in the procedure of the command in `L` (43_register_transfer R102, R108). -/
def txnOk (l : Snapshot) : Txn → Bool
  | .address  => hasReadPhase l.op
  | .whole    => hasWritePhase l.op && !l.cfg.wrTwoTxn
  | .header   => hasWritePhase l.op && l.cfg.wrTwoTxn
  | .codeword => hasWritePhase l.op && l.cfg.wrTwoTxn

/-- How many bytes a transaction sends (43_register_transfer R102, R108). -/
def txnLength : Txn → Nat
  | .address  => 1
  | .whole    => 3
  | .header   => 1
  | .codeword => 2

/-- The waits of the procedure of the command in `L`. -/
def gapOk (l : Snapshot) : Gap → Bool
  | .afterAddress => hasReadPhase l.op
  | .retry        => hasReadPhase l.op
  | .beforeWrite  => l.op == opWrfld
  | .betweenTxns  => hasWritePhase l.op && l.cfg.wrTwoTxn
  | .postWrite    => hasWritePhase l.op

/-- The positions of the procedure of the command in `L`. -/
def posOk (l : Snapshot) : Pos → Bool
  | .beginTxn t => txnOk l t
  | .byte t i   => txnOk l t && decide (i < txnLength t)
  | .endTxn t   => txnOk l t
  | .wait g     => gapOk l g
  | .request    => hasReadPhase l.op
  | .readHi     => hasReadPhase l.op
  | .readLo     => hasReadPhase l.op

/-- The phase fits the command in `L`, and a completion writes results exactly when its error is not fatal
(10_state R35, 60_exceptions R118). -/
def phaseOk (l : Snapshot) : Phase → Bool
  | .idle         => true
  | .exec         => isPureOp l.op
  | .run p        => posOk l p
  | .finish e res => (isPureOp l.op || isBusOp l.op) && (res.isNone == e.fatal)

/-- Attempts still allowed at a position: below the bound wherever a request may follow, and at most the bound after
one (43_register_transfer R105). -/
def attemptsOk (s : State) : Pos → Bool
  | .beginTxn .address   => s.status.attempts == 0
  | .byte .address _     => s.status.attempts == 0
  | .endTxn .address     => s.status.attempts == 0
  | .wait .afterAddress  => s.status.attempts == s.k && decide (s.k < s.snap.max)
  | .wait .retry         => s.status.attempts == s.k && decide (s.k < s.snap.max)
  | .request             => s.status.attempts == s.k && decide (s.k < s.snap.max)
  | .readHi              => s.status.attempts == s.k && decide (0 < s.k)
  | .readLo              => s.status.attempts == s.k && decide (0 < s.k)
  | _                    => true

/-- A transaction is open exactly between its `BusBegin` and its `BusEnd`. -/
def openAt : Phase → Bool
  | .run (.byte _ _) => true
  | .run (.endTxn _) => true
  | _                => false

/-- The bytes due where the engine is about to read. -/
def dueAt (log : List BusCall) : Phase → Bool
  | .run .readHi => bytesDue log == 2
  | .run .readLo => bytesDue log == 1
  | _            => true

/-- The phases in which STATUS.WRITTEN may be 1: after the codeword transaction (43_register_transfer R109). -/
def mayBeWritten : Phase → Bool
  | .idle              => true
  | .run (.wait .postWrite) => true
  | .finish .none _    => true
  | _                  => false

/-- The invariant of the block. It holds at reset and every step keeps it. -/
structure Inv (s : State) : Prop where
  /-- BUSY = 1 exactly when the engine is not IDLE (10_state R35). -/
  busy_iff : s.status.busy = true ↔ s.phase ≠ .idle
  /-- The phase fits the command. -/
  phase_ok : phaseOk s.snap s.phase = true
  /-- CFG.WR_ADDR_POS holds a legal value (10_state R29). -/
  pos_legal : wrAddrPosMin ≤ s.cfg.wrAddrPos ∧ s.cfg.wrAddrPos ≤ wrAddrPosMax
  /-- RETRY.MAX_ATTEMPTS holds a legal value (10_state R32). -/
  max_legal : s.maxAttempts ≠ 0
  /-- So does the snapshot of a running command (10_state R36). -/
  snap_legal : s.status.busy = true →
    wrAddrPosMin ≤ s.snap.cfg.wrAddrPos ∧ s.snap.cfg.wrAddrPos ≤ wrAddrPosMax ∧ s.snap.max ≠ 0
  /-- DONE reads 0 while BUSY = 1, and ERR reads NONE (10_state R24). -/
  busy_clears : s.status.busy = true → s.status.done = false ∧ s.status.err = .none
  /-- An abort is pending only while a bus command runs (10_state R39). -/
  abort_ok : s.abortPending = true → s.status.busy = true ∧ isBusOp s.snap.op = true
  /-- A held wait has ticks left, and no more than `L.settle + 1` (43_register_transfer R100). -/
  wait_ok : ∀ g, s.phase = .run (.wait g) → 1 ≤ s.wcnt.toNat ∧ s.wcnt.toNat ≤ s.snap.settle.toNat + 1
  /-- The attempts made by the running command never exceed its bound (43_register_transfer R105). -/
  attempts_le : s.status.busy = true → s.status.attempts ≤ s.snap.max
  /-- The attempt counter where the read loop uses it. -/
  attempts_ok : ∀ p, s.phase = .run p → attemptsOk s p = true
  /-- WRITTEN = 1 only once the codeword transaction has ended, and never beside an error (43_register_transfer R109). -/
  written_ok : s.status.written = true → mayBeWritten s.phase = true ∧ s.status.err = .none
  /-- The record of the bus port is one the engine may leave, and it shows where the engine stands (20_memory R51). -/
  bus_ok : busOk s.busLog = true
  bus_open : txnOpen s.busLog = openAt s.phase
  bus_due : dueAt s.busLog s.phase = true
  /-- While `rst` is asserted the engine is IDLE (70_reset_and_hazards R130). -/
  rst_idle : s.rst = true → s.phase = .idle

/-! ### Schedules -/

/-- The ticks a settle wait of `n` milliseconds takes (43_register_transfer R100). -/
def settleTicks (n : BitVec 8) : List Event :=
  if n = 0 then [] else List.replicate (n.toNat + 1) .tick

/-- An ENGINE step whose primitive, if any, is answered OK and in full. -/
def okMove : Event := .engine (some ⟨true, 2, 0⟩)

/-- An ENGINE step whose `BusRead` is answered with this byte. -/
def byteMove (b : Byte) : Event := .engine (some ⟨true, 2, b⟩)

/-- One transaction of `n` bytes, all answered OK: `BusBegin`, the bytes, `BusEnd`. -/
def txnMoves (n : Nat) : List Event := List.replicate (n + 2) okMove

/-- One attempt answered in full with the word `w`, high byte first (20_memory R53). -/
def attemptMoves (w : Codeword) : List Event :=
  [okMove, byteMove (w.extractLsb' 8 8), byteMove (w.extractLsb' 0 8)]

/-- Attempts that are answered with these words, each followed by its retry wait. -/
def retryMoves (settle : BitVec 8) : List Codeword → List Event
  | []      => []
  | w :: ws => attemptMoves w ++ settleTicks settle ++ retryMoves settle ws

/-- A read phase that fails on `bad` and ends with `w`: the address transaction, its wait, the failed attempts with
their waits, the last attempt (43_register_transfer R102). -/
def readMoves (settle : BitVec 8) (bad : List Codeword) (w : Codeword) : List Event :=
  txnMoves 1 ++ settleTicks settle ++ retryMoves settle bad ++ attemptMoves w

/-- A write phase that goes well, in either shape (43_register_transfer R108). -/
def writeMoves (c : Cfg) (settle : BitVec 8) : List Event :=
  if c.wrTwoTxn then txnMoves 1 ++ settleTicks settle ++ txnMoves 2 ++ settleTicks settle
  else txnMoves 3 ++ settleTicks settle

/-! ### The bus port's record of a schedule (newest first) -/

/-- One transaction, all answered OK. -/
def txnCalls (dev : Addr7) (bytes : List Byte) : List BusCall :=
  .ended true :: (bytes.reverse.map (fun b => .wrote b true) ++ [.begun dev])

/-- One attempt answered in full with the word `w`. -/
def attemptCalls (dev : Addr7) (w : Codeword) : List BusCall :=
  [.gotByte (w.extractLsb' 0 8), .gotByte (w.extractLsb' 8 8), .requested dev 2]

/-- A read phase that fails on `bad` and ends with `w`. -/
def readCalls (dev : Addr7) (hdr : Byte) (bad : List Codeword) (w : Codeword) : List BusCall :=
  attemptCalls dev w ++ (bad.reverse.flatMap (attemptCalls dev) ++ txnCalls dev [hdr])

/-- A write phase that goes well, in either shape (43_register_transfer R108). -/
def writeCalls (c : Cfg) (dev : Addr7) (e : Encoded) : List BusCall :=
  let hi : Byte := e.cw.extractLsb' 8 8
  let lo : Byte := e.cw.extractLsb' 0 8
  if c.wrTwoTxn then txnCalls dev [hi, lo] ++ txnCalls dev [e.hdr] else txnCalls dev [e.hdr, hi, lo]

/-! ### Holds (20_memory R54, 60_exceptions R129) -/

/-- The positions whose next primitive has a response, which the engine awaits. -/
def awaitsAnswer : Pos → Bool
  | .beginTxn _ => false
  | .byte _ _   => true
  | .endTxn _   => true
  | .wait _     => false
  | .request    => true
  | .readHi     => true
  | .readLo     => true

/-! ### Safe points (44_control R114) -/

/-- The positions at which a pending abort is taken: the starts of the read and the write phase, the abortable waits,
and each request. -/
def isSafePoint : Pos → Bool
  | .beginTxn .address  => true
  | .beginTxn .whole    => true
  | .beginTxn .header   => true
  | .beginTxn .codeword => false
  | .wait .afterAddress => true
  | .wait .retry        => true
  | .wait .beforeWrite  => true
  | .wait .betweenTxns  => false
  | .wait .postWrite    => false
  | .request            => true
  | .byte _ _           => false
  | .endTxn _           => false
  | .readHi             => false
  | .readLo             => false

/-- The command's write has begun: the `BusBegin` of its first write transaction is behind, and the command has not
ended. An abort is never taken here (44_control R114). -/
def writeBegun : Phase → Bool
  | .run (.beginTxn t)       => t == .codeword
  | .run (.byte t _)         => t != .address
  | .run (.endTxn t)         => t != .address
  | .run (.wait .betweenTxns) => true
  | .run (.wait .postWrite)  => true
  | .run (.wait _)           => false
  | .run .request            => false
  | .run .readHi             => false
  | .run .readLo             => false
  | .idle                    => false
  | .exec                    => false
  | .finish _ _              => false

/-! ### How far a running command is from its end (60_exceptions R129) -/

/-- The most ticks one wait takes, and one. -/
def waitCost (l : Snapshot) : Nat := l.settle.toNat + 2

/-- An upper bound on the moves from the `BusBegin` of the first write transaction to IDLE. -/
def writeCost (l : Snapshot) : Nat := 2 * waitCost l + 8

/-- An upper bound on the moves from a valid response to IDLE. -/
def doneCost (l : Snapshot) : Nat := waitCost l + writeCost l

/-- An upper bound on the moves from the second `BusRead` of attempt `k` to IDLE. -/
def readLoCost (l : Snapshot) (k : Nat) : Nat := doneCost l + 1 + (l.max.toNat - k) * (waitCost l + 4)

/-- An upper bound on the moves from the request after attempt `k` to IDLE. -/
def requestCost (l : Snapshot) (k : Nat) : Nat := readLoCost l (k + 1) + 2

/-- An upper bound on the engine and tick moves left before IDLE, counting only moves that get the command on. -/
def movesLeft (s : State) : Nat :=
  let l := s.snap
  match s.phase with
  | .idle => 0
  | .finish _ _ => 1
  | .exec => 2
  | .run (.wait .postWrite) => s.wcnt.toNat + 1
  | .run (.endTxn .whole) => waitCost l + 1
  | .run (.byte .whole i) => waitCost l + 2 + (3 - i)
  | .run (.beginTxn .whole) => waitCost l + 6
  | .run (.endTxn .codeword) => waitCost l + 1
  | .run (.byte .codeword i) => waitCost l + 2 + (2 - i)
  | .run (.beginTxn .codeword) => waitCost l + 5
  | .run (.wait .betweenTxns) => waitCost l + 5 + s.wcnt.toNat
  | .run (.endTxn .header) => 2 * waitCost l + 5
  | .run (.byte .header _) => 2 * waitCost l + 6
  | .run (.beginTxn .header) => 2 * waitCost l + 7
  | .run (.wait .beforeWrite) => writeCost l + s.wcnt.toNat
  | .run .readLo => readLoCost l s.k.toNat
  | .run .readHi => readLoCost l s.k.toNat + 1
  | .run .request => requestCost l s.k.toNat
  | .run (.wait .retry) => requestCost l s.k.toNat + s.wcnt.toNat
  | .run (.wait .afterAddress) => requestCost l s.k.toNat + s.wcnt.toNat
  | .run (.endTxn .address) => requestCost l 0 + waitCost l
  | .run (.byte .address _) => requestCost l 0 + waitCost l + 1
  | .run (.beginTxn .address) => requestCost l 0 + waitCost l + 2

/-- A move that gets a running command on: an engine step outside a held wait, with an answer where the engine awaits
one, and a tick inside a wait (43_register_transfer R98, R100; 20_memory R54). -/
def progresses (s : State) : Event → Bool
  | .engine r =>
    match s.phase with
    | .idle          => false
    | .run (.wait _) => false
    | .run p         => r.isSome || !awaitsAnswer p
    | .exec          => true
    | .finish _ _    => true
  | .tick =>
    match s.phase with
    | .run (.wait _) => true
    | _              => false
  | _ => false

/-! ### What host software owes before its first bus command (70_reset_and_hazards R134) -/

/-- DEVADDR holds the device's bus address. The block does not check it. -/
def booted (s : State) : Bool := s.devaddr == Config.deviceBusAddr

end Sys2Proof.Safety
end

