-- ==== Sys2Proof/Certificates/Slice0/Obligations.lean ====
section
/-! DEFINITION. The statements about the model, for the provers. Each docstring names the rules of spec/ it rests on. -/

open Sys2Proof Sys2Proof.Machine Sys2Proof.Safety

/-! ## Encoding (30_encoding) -/

/-- Decoding an instruction's word where it is written gives the instruction back, with every RADDR (R60, R62, R65,
R74). -/
def Obligations.DecodeEncodeRoundTrip : Prop :=
  ∀ i : Instr, decode i.port (encode i) = .ok i

/-- A legal command word has one meaning: the word is the encoding of the instruction read from it. A CTRL write is
ABORT exactly when its bit 0 is 1 (R60 to R65). -/
def Obligations.DecodedWordIsItsEncoding : Prop :=
  (∀ (w : Word) (i : Instr), decodeCmd w = .ok i → encode i = w ∧ i.port = .cmd) ∧
  (∀ w : Word, decodeCtrl w = .ok .abort ↔ w.getLsbD 0 = true) ∧
  (∀ (w : Word) (i : Instr), decodeCtrl w = .ok i → i = .abort)

/-- R63: which words are legal, and that they are those that match exactly one row of the opcode table. -/
def Obligations.LegalWordMatchesExactlyOneRow : Prop :=
  ∀ w : Word,
    let op : BitVec 4 := w.extractLsb' 0 4
    ((∃ i, decodeCmd w = .ok i) ↔
      w.extractLsb' 11 21 = 0 ∧ (1 ≤ op ∧ op ≤ 7) ∧ (op = 1 ∨ op = 3 → w.extractLsb' 4 7 = 0)) ∧
    ((∃ i, decodeCmd w = .ok i) ↔ opcodeRows.countP (fun r => r.hits w) = 1)

/-- Words written out from the encodings of R60, R62, R65 and R74. -/
def Obligations.SampleWordsDecode : Prop :=
  decodeCmd 0x00000001 = .ok .crc ∧
  decodeCmd 0x00000022 = .ok (.enc 0x02) ∧
  decodeCmd 0x00000003 = .ok .dec ∧
  decodeCmd 0x000007F4 = .ok (.rdreg 0x7F) ∧
  decodeCmd 0x00000025 = .ok (.wrreg 0x02) ∧
  decodeCmd 0x00000016 = .ok (.rdfld 0x01) ∧
  decodeCmd 0x00000017 = .ok (.wrfld 0x01) ∧
  decodeCtrl 0xFFFFFFFF = .ok .abort ∧
  decodeCmd 0x00000008 = .error .opUnknown ∧
  decodeCmd 0x00000011 = .error .raddrNotZero ∧
  decodeCmd 0x00000804 = .error .upperNotZero

/-! ## Steps, agents and the host window (10_state, 20_memory) -/

/-- A step runs the decoded instruction: when the next move is the host's write of a word that decodes to `i` where it
is written, the step is `exec i` of the state without that move; `withFetchWord` places exactly such a move. Any agent's
move may come next (10_state R20): the step performs whichever is placed, and a free move where none is placed (the
model's choice, log 2). -/
def Obligations.StepRunsDecodedInstruction : Prop :=
  (∀ (s : State) (e : Event) (es : List Event),
    step { s with agenda := e :: es } = perform e { s with agenda := es }) ∧
  (∀ s : State, s.agenda = [] →
    step s = perform (Config.freeEvent s.draws) { s with draws := s.draws + 1 }) ∧
  (∀ (s : State) (es : List Event) (p : Port) (v : Word) (i : Instr),
    s.agenda = .host (portWrite p v) :: es → s.rst = false → decode p v = .ok i →
      step s = exec i { s with agenda := es }) ∧
  (∀ (s : State) (nbits w : Nat) (i : Instr),
    decodeTableWord nbits w = some i → step (s.withFetchWord nbits w) = exec i { s with rst := false })

/-- R41: every value after reset, of the internal state and as the host reads the registers. -/
def Obligations.ResetLeavesTheSpecifiedValues : Prop :=
  let s := State.reset
  (s.cmd = 0 ∧ s.status.toWord = 0 ∧ s.opa = 0 ∧ s.opb = 0 ∧ s.opc = 0 ∧ s.res0 = 0 ∧ s.res1 = 0) ∧
  (s.cfg.toWord = 0x00001001 ∧ s.devaddr = 0 ∧ s.settleMs = 0x0A ∧ s.maxAttempts = 0x08) ∧
  (regRead 0x2C s = 0 ∧ regRead 0x30 s = 0x00180B01) ∧
  (s.phase = .idle ∧ s.snap = .zero ∧ s.abortPending = false) ∧
  (s.k = 0 ∧ s.wcnt = 0 ∧ s.terr = false ∧ s.hi = 0 ∧ s.lo = 0 ∧ s.rvOld = 0 ∧ s.newv = 0)

/-- R42: the window is the 64 bytes at `BASE_ADDR`; a host access of `BASE_ADDR + off` reaches offset `off`, and an
access of any other address does not reach the block. -/
def Obligations.WindowIsSixtyFourBytesAtBase : Prop :=
  Config.baseAddr % 64 = 0 ∧
  (∀ (off : BitVec 6) (width : Nat) (op : HostOp),
    accessAt (Config.baseAddr + off.toNat) width op = some ⟨off, width, op⟩) ∧
  (∀ (addr width : Nat) (op : HostOp),
    addr < Config.baseAddr ∨ Config.baseAddr + 64 ≤ addr → accessAt addr width op = none)

/-- R43, R130: an access of another width or at a misaligned offset is refused, and so is any access while `rst` is
asserted; every other access is performed. -/
def Obligations.HostAccessRefusedOrPerformed : Prop :=
  ∀ (s : State) (a : HostAccess),
    (s.rst = true → hostStep a s = .fault .accessInReset) ∧
    (s.rst = false → a.width ≠ 4 ∨ a.offset.toNat % 4 ≠ 0 → hostStep a s = .fault .accessRefused) ∧
    (s.rst = false → a.width = 4 → a.offset.toNat % 4 = 0 → ∃ t, hostStep a s = .next t)

/-- R22, R42, R45, R26 to R28, R30 to R34, R44: which register each offset reads; a read changes nothing but the word
the host receives, which is the register at the offset; a write stores its register and nothing else; RES0, RES1, ID and
the reserved offsets ignore writes. -/
def Obligations.HostAccessesTouchTheirRegister : Prop :=
  (∀ s : State,
    regRead 0x00 s = s.cmd ∧ regRead 0x04 s = s.status.toWord ∧
    regRead 0x08 s = s.opa ∧ regRead 0x0C s = s.opb ∧ regRead 0x10 s = s.opc ∧
    regRead 0x14 s = s.res0 ∧ regRead 0x18 s = s.res1 ∧ regRead 0x1C s = s.cfg.toWord ∧
    regRead 0x20 s = 0#25 ++ s.devaddr ∧ regRead 0x24 s = 0#24 ++ s.settleMs ∧
    regRead 0x28 s = 0#24 ++ s.maxAttempts ∧ regRead 0x2C s = 0 ∧ regRead 0x30 s = 0x00180B01 ∧
    regRead 0x34 s = 0 ∧ regRead 0x38 s = 0 ∧ regRead 0x3C s = 0) ∧
  (∀ (s : State) (off : BitVec 6), s.rst = false → off.toNat % 4 = 0 →
    hostStep ⟨off, 4, .read⟩ s = .next { s with readData := regRead off s }) ∧
  ∀ (s : State) (v : Word), s.rst = false →
    hostStep ⟨0x08, 4, .write v⟩ s = .next { s with opa := v } ∧
    hostStep ⟨0x0C, 4, .write v⟩ s = .next { s with opb := v } ∧
    hostStep ⟨0x10, 4, .write v⟩ s = .next { s with opc := v } ∧
    hostStep ⟨0x1C, 4, .write v⟩ s = .next { s with cfg := .ofWrite v } ∧
    hostStep ⟨0x20, 4, .write v⟩ s = .next { s with devaddr := v.setWidth 7 } ∧
    hostStep ⟨0x24, 4, .write v⟩ s = .next { s with settleMs := v.setWidth 8 } ∧
    hostStep ⟨0x28, 4, .write v⟩ s =
      .next { s with maxAttempts := if v.setWidth 8 = 0#8 then 1 else v.setWidth 8 } ∧
    ∀ off ∈ [0x14, 0x18, 0x30, 0x34, 0x38, 0x3C], hostStep ⟨off, 4, .write v⟩ s = .next s

/-- R25: a write of 1 to STATUS bit 1 clears DONE and of 1 to bit 3 clears OVR; every other bit is ignored, and reading
STATUS has no side effect. -/
def Obligations.StatusWriteClearsDoneAndOvr : Prop :=
  ∀ (s : State) (v : Word), s.rst = false →
    (∃ t, hostStep ⟨0x04, 4, .write v⟩ s = .next t ∧
      t.status.done = (s.status.done && !v.getLsbD 1) ∧
      t.status.ovr = (s.status.ovr && !v.getLsbD 3) ∧
      t = { s with status := { s.status with done := t.status.done, ovr := t.status.ovr } }) ∧
    hostStep ⟨0x04, 4, .read⟩ s = .next { s with readData := s.status.toWord }

/-- The bit places of R24 and R28 and the codes of R117: every field of STATUS and of CFG reads at its own bit, each
CFG field is taken from its own bit of a written word (WR_ADDR_POS clamped as R29 says), the reserved bits read 0, and
ERR holds the code of its error. -/
def Obligations.StatusAndCfgBitPlaces : Prop :=
  (∀ st : Status,
    st.toWord.getLsbD 0 = st.busy ∧ st.toWord.getLsbD 1 = st.done ∧ st.toWord.getLsbD 2 = st.written ∧
    st.toWord.getLsbD 3 = st.ovr ∧ st.toWord.extractLsb' 4 4 = st.err.code ∧
    st.toWord.extractLsb' 8 8 = st.attempts ∧ st.toWord.extractLsb' 16 16 = 0) ∧
  (ErrCode.code .none = 0 ∧ ErrCode.code .illegalCmd = 1 ∧ ErrCode.code .invalidMask = 2 ∧
    ErrCode.code .checksumMismatch = 3 ∧ ErrCode.code .genZero = 4 ∧ ErrCode.code .busError = 5 ∧
    ErrCode.code .deviceUnresponsive = 6 ∧ ErrCode.code .aborted = 7) ∧
  (∀ c : Cfg,
    c.toWord.getLsbD 0 = c.strictMask ∧ c.toWord.getLsbD 1 = c.wrTwoTxn ∧ c.toWord.getLsbD 2 = c.wrHdrParity ∧
    c.toWord.getLsbD 3 = c.rdHdrParity ∧ c.toWord.getLsbD 4 = c.wrAddrInCheck ∧ c.toWord.extractLsb' 5 3 = 0 ∧
    c.toWord.extractLsb' 8 5 = c.wrAddrPos ∧ c.toWord.extractLsb' 13 19 = 0) ∧
  (∀ v : Word,
    let c := Cfg.ofWrite v
    c.strictMask = v.getLsbD 0 ∧ c.wrTwoTxn = v.getLsbD 1 ∧ c.wrHdrParity = v.getLsbD 2 ∧
    c.rdHdrParity = v.getLsbD 3 ∧ c.wrAddrInCheck = v.getLsbD 4 ∧
    c.wrAddrPos.toNat = min (max (v.extractLsb' 8 5).toNat 16) 25)

/-- R29: a written WR_ADDR_POS `p` is stored as `min(max(p, 16), 25)`, so that the address field lies within bits 31:16
of the check message and does not overlap its value fields. -/
def Obligations.WrAddrPosIsClamped : Prop :=
  ∀ v : Word,
    (Cfg.ofWrite v).wrAddrPos.toNat = min (max (v.extractLsb' 8 5).toNat 16) 25 ∧
    (16 ≤ (Cfg.ofWrite v).wrAddrPos.toNat ∧ (Cfg.ofWrite v).wrAddrPos.toNat ≤ 25) ∧
    ∀ (a : Addr7) (x : Val11),
      (a.setWidth 32 <<< (Cfg.ofWrite v).wrAddrPos.toNat : Word).extractLsb' 0 16 = 0 ∧
      ((a.setWidth 32 <<< (Cfg.ofWrite v).wrAddrPos.toNat : Word) >>> (Cfg.ofWrite v).wrAddrPos.toNat =
        a.setWidth 32) ∧
      (a.setWidth 32 <<< (Cfg.ofWrite v).wrAddrPos.toNat : Word) &&& cmr x = 0

/-- R34: ID is hardwired. -/
def Obligations.IdIsHardwired : Prop :=
  ∀ s : State,
    regRead 0x30 s = 0x00180B01 ∧
    (regRead 0x30 s).extractLsb' 0 8 = (0x01 : BitVec 8) ∧
    (regRead 0x30 s).extractLsb' 8 8 = codecGen.setWidth 8 ∧
    (regRead 0x30 s).extractLsb' 16 8 = framing.setWidth 8 ∧
    (regRead 0x30 s).extractLsb' 24 8 = (0x00 : BitVec 8) ∧
    ∀ v : Word, s.rst = false → hostStep ⟨0x30, 4, .write v⟩ s = .next s

/-- R44: the reserved offsets read 0 and ignore writes, and so do the reserved bits of the defined registers. -/
def Obligations.ReservedReadsZeroAndIgnoresWrites : Prop :=
  (∀ (s : State), ∀ off ∈ [0x34#6, 0x38#6, 0x3C#6],
    regRead off s = 0 ∧ ∀ v : Word, s.rst = false → hostStep ⟨off, 4, .write v⟩ s = .next s) ∧
  (∀ s : State,
    (regRead 0x04 s).extractLsb' 16 16 = (0 : BitVec 16) ∧
    (regRead 0x1C s).extractLsb' 5 3 = (0 : BitVec 3) ∧ (regRead 0x1C s).extractLsb' 13 19 = (0 : BitVec 19) ∧
    (regRead 0x20 s).extractLsb' 7 25 = (0 : BitVec 25) ∧ (regRead 0x24 s).extractLsb' 8 24 = (0 : BitVec 24) ∧
    (regRead 0x28 s).extractLsb' 8 24 = (0 : BitVec 24) ∧ regRead 0x2C s = 0 ∧
    (regRead 0x30 s).extractLsb' 24 8 = (0 : BitVec 8)) ∧
  (∀ (s : State) (v v' : Word), s.rst = false →
    (v &&& 0x0000000A = v' &&& 0x0000000A →
      hostStep ⟨0x04, 4, .write v⟩ s = hostStep ⟨0x04, 4, .write v'⟩ s) ∧
    (v &&& 0x00001F1F = v' &&& 0x00001F1F →
      hostStep ⟨0x1C, 4, .write v⟩ s = hostStep ⟨0x1C, 4, .write v'⟩ s) ∧
    (v &&& 0x0000007F = v' &&& 0x0000007F →
      hostStep ⟨0x20, 4, .write v⟩ s = hostStep ⟨0x20, 4, .write v'⟩ s) ∧
    (v &&& 0x000000FF = v' &&& 0x000000FF →
      hostStep ⟨0x24, 4, .write v⟩ s = hostStep ⟨0x24, 4, .write v'⟩ s ∧
      hostStep ⟨0x28, 4, .write v⟩ s = hostStep ⟨0x28, 4, .write v'⟩ s) ∧
    (v &&& 0x00000001 = v' &&& 0x00000001 →
      hostStep ⟨0x2C, 4, .write v⟩ s = hostStep ⟨0x2C, 4, .write v'⟩ s))

/-! ## Acceptance (30_encoding R64 to R66, 10_state R36, R38) -/

/-- R64: a word with OP 0 or 8 to 15, a nonzero bit in 31:11, or a nonzero RADDR under CRC or DEC is refused: its
acceptance completes at once with ILLEGAL_CMD, and BUSY stays 0. -/
def Obligations.IllegalWordCompletesAtOnce : Prop :=
  ∀ (s : State) (w : Word), s.rst = false → s.status.busy = false →
    (let op : BitVec 4 := w.extractLsb' 0 4
     op = 0 ∨ 8 ≤ op ∨ w.extractLsb' 11 21 ≠ 0 ∨ ((op = 1 ∨ op = 3) ∧ w.extractLsb' 4 7 ≠ 0)) →
    hostStep (portWrite .cmd w) s =
      .next { s with
        cmd := w
        abortPending := false
        status := { s.status with done := true, written := false, err := .illegalCmd, attempts := 0 } }

/-- R38: a CMD write of any word, legal or not, while BUSY = 1 sets OVR and changes nothing else; so does issuing any
command. -/
def Obligations.BusyCmdWriteOnlySetsOvr : Prop :=
  ∀ s : State, s.status.busy = true →
    (∀ w : Word, s.rst = false →
      hostStep (portWrite .cmd w) s = .next { s with status := { s.status with ovr := true } }) ∧
    (∀ i : Instr, i.port = .cmd → exec i s = .next { s with status := { s.status with ovr := true } })

/-- R66, R36: a command issued while BUSY = 0 that the strict mask check does not refuse starts: BUSY is set, DONE, ERR,
WRITTEN and ATTEMPTS are cleared, `L` is the snapshot, and the phase is EXEC or the first primitive. Nothing else
changes. That ERR is cleared is R66's word, against R136 (log 15). -/
def Obligations.AcceptanceStartsTheCommand : Prop :=
  ∀ (s : State) (i : Instr), i.port = .cmd → s.status.busy = false →
    ((i.op = 6 ∨ i.op = 7) → s.cfg.strictMask = true → maskOk (s.opb.setWidth 11) = true) →
    exec i s = .next { s with
      cmd := encode i
      status := { s.status with busy := true, done := false, written := false, err := .none, attempts := 0 }
      abortPending := false
      snap := { op := i.op, raddr := i.raddr, opa := s.opa, opb := s.opb, opc := s.opc, cfg := s.cfg
                dev := s.devaddr, settle := s.settleMs, max := s.maxAttempts }
      phase :=
        match i with
        | .crc | .enc _ | .dec | .abort => .exec
        | .rdreg _ | .rdfld _ | .wrfld _ => .run (.beginTxn .address)
        | .wrreg _ => .run (.beginTxn (if s.cfg.wrTwoTxn then .header else .whole)) }

/-- R93: with STRICT_MASK = 1 a zero or non-contiguous mask ends RDFLD and WRFLD at acceptance with INVALID_MASK, with
BUSY 0 and no bus traffic; with STRICT_MASK = 0 no mask is refused, a zero mask extracts 0 and merges to the current
value, and any mask gives the formulas' values. -/
def Obligations.StrictMaskIsCheckedAtAcceptance : Prop :=
  (∀ (s : State) (a : Addr7) (i : Instr), i = .rdfld a ∨ i = .wrfld a → s.status.busy = false →
    (s.cfg.strictMask = true → maskOk (s.opb.setWidth 11) = false →
      ∃ t, exec i s = .next t ∧ t.status = { s.status with done := true, written := false, err := .invalidMask, attempts := 0 } ∧
        t.phase = s.phase ∧ t.busLog = s.busLog ∧ t.res0 = s.res0 ∧ t.res1 = s.res1 ∧ t.cmd = encode i) ∧
    (s.cfg.strictMask = false →
      ∃ t, exec i s = .next t ∧ t.status.busy = true ∧ t.phase = .run (.beginTxn .address))) ∧
  (∀ rv val : Val11, fieldExtract rv 0 = 0 ∧ fieldMerge rv 0 val = rv) ∧
  (∀ rv m val : Val11, fieldExtract rv m = (rv &&& m) >>> ctz m ∧
    fieldMerge rv m val = (rv &&& (~~~m &&& 0x7FF)) ||| (val &&& m))

/-- R36: the running command reads only `L`: whatever the host stores in the operand and configuration registers, and
CMD's read value, makes no difference to an engine step or a tick. -/
def Obligations.RunningCommandReadsOnlyItsSnapshot : Prop :=
  ∀ (s : State) (r : Option BusReply) (c a b d : Word) (cfg : Cfg) (dev : Addr7) (settle max : BitVec 8),
    let put : State → State := fun t =>
      { t with cmd := c, opa := a, opb := b, opc := d, cfg := cfg, devaddr := dev, settleMs := settle, maxAttempts := max }
    engineStep r (put s) = put (engineStep r s) ∧ tickStep (put s) = put (tickStep s)

/-! ## The pure commands (40_checksum_engine, 41_register_codec) -/

/-- R84: CRC, issued while BUSY = 0, answers a next state, and two engine steps later it has ended with the remainder in
RES0 and `bitlen` of the generator in RES1, advisory GEN_ZERO for a zero generator, and no bus traffic. -/
def Obligations.CrcRunsToCompletion : Prop :=
  ∀ (s : State) (r r' : Option BusReply), s.rst = false → s.status.busy = false →
    ∃ t, exec .crc s = .next t ∧ t.status.busy = true ∧
      performAll [.engine r, .engine r'] t = .next { s with
        cmd := 0x00000001
        status := { s.status with
          done := true, written := false, attempts := 0
          err := if s.opb = 0 then .genZero else .none }
        res0 := checksum s.opa s.opb s.opc
        res1 := BitVec.ofNat 32 (bitlen s.opb)
        abortPending := false
        phase := .idle
        snap := t.snap }

/-- R88: ENC, issued while BUSY = 0, answers a next state, and two engine steps later it has ended with the codeword in
RES0, the check bits in RES1[10:8] and the header in RES1[7:0], and no bus traffic. -/
def Obligations.EncRunsToCompletion : Prop :=
  ∀ (s : State) (a : Addr7) (r r' : Option BusReply), s.rst = false → s.status.busy = false →
    let e := encodeWrite s.cfg a (s.opa.setWidth 11)
    ∃ t, exec (.enc a) s = .next t ∧ t.status.busy = true ∧
      performAll [.engine r, .engine r'] t = .next { s with
        cmd := encode (.enc a)
        status := { s.status with done := true, written := false, err := .none, attempts := 0 }
        res0 := e.cw.setWidth 32
        res1 := (e.chk.setWidth 32 <<< 8) ||| e.hdr.setWidth 32
        abortPending := false
        phase := .idle
        snap := t.snap }

/-- R89: DEC, issued while BUSY = 0, answers a next state, and two engine steps later it has ended with the value in
RES0 and valid, syndrome and check in RES1, advisory CHECKSUM_MISMATCH for a nonzero syndrome, and no bus traffic. -/
def Obligations.DecRunsToCompletion : Prop :=
  ∀ (s : State) (r r' : Option BusReply), s.rst = false → s.status.busy = false →
    let d := decodeRead (s.opa.setWidth 16)
    ∃ t, exec .dec s = .next t ∧ t.status.busy = true ∧
      performAll [.engine r, .engine r'] t = .next { s with
        cmd := 0x00000003
        status := { s.status with
          done := true, written := false, attempts := 0
          err := if d.synd = 0 then .none else .checksumMismatch }
        res0 := d.rv.setWidth 32
        res1 := ((if d.synd = 0 then 0x100 else 0) ||| (d.synd.setWidth 32 <<< 4)) ||| d.chk.setWidth 32
        abortPending := false
        phase := .idle
        snap := t.snap }

/-! ## The bus commands (42_masked_accessor, 43_register_transfer) -/

/-- R111, R102, R104: RDREG, issued while BUSY = 0, answers a next state. If the responses before the bound are `bad`
ones that fail validation and then `w`, which is valid, it ends with `w`'s value in RES0, `w` in RES1, and one attempt
counted per response; the record shows one address transaction and one request per attempt. What follows a wait comes
with its last tick (log 5). -/
def Obligations.RdregReturnsTheFirstValidResponse : Prop :=
  ∀ (s : State) (a : Addr7) (bad : List Codeword) (w : Codeword),
    s.rst = false → s.status.busy = false → bad.length < s.maxAttempts.toNat →
    (∀ b ∈ bad, (decodeRead b).ok = false) → (decodeRead w).ok = true →
    ∃ t u, exec (.rdreg a) s = .next t ∧ t.status.busy = true ∧
      performAll (readMoves s.settleMs bad w ++ [okMove]) t = .next u ∧
      u.res0 = (decodeRead w).rv.setWidth 32 ∧ u.res1 = w.setWidth 32 ∧
      u.status = { s.status with
        done := true, written := false, err := .none, attempts := BitVec.ofNat 8 (bad.length + 1) } ∧
      u.phase = .idle ∧ u.abortPending = false ∧
      u.busLog = readCalls s.devaddr (hdrRd s.cfg a) bad w ++ s.busLog

/-- R94: RDFLD, with a mask the strict check lets through, answers a next state and ends with the field of the first
valid response right-aligned in RES0 and the whole value in RES1 (waits as log 5 says). -/
def Obligations.RdfldReturnsTheField : Prop :=
  ∀ (s : State) (a : Addr7) (bad : List Codeword) (w : Codeword),
    s.rst = false → s.status.busy = false → bad.length < s.maxAttempts.toNat →
    (s.cfg.strictMask = true → maskOk (s.opb.setWidth 11) = true) →
    (∀ b ∈ bad, (decodeRead b).ok = false) → (decodeRead w).ok = true →
    let m : Val11 := s.opb.setWidth 11
    let rv := (decodeRead w).rv
    ∃ t u, exec (.rdfld a) s = .next t ∧ t.status.busy = true ∧
      performAll (readMoves s.settleMs bad w ++ [okMove]) t = .next u ∧
      u.res0 = ((rv &&& m) >>> ctz m).setWidth 32 ∧ u.res1 = rv.setWidth 32 ∧
      u.status = { s.status with
        done := true, written := false, err := .none, attempts := BitVec.ofNat 8 (bad.length + 1) } ∧
      u.phase = .idle ∧ u.abortPending = false ∧
      u.busLog = readCalls s.devaddr (hdrRd s.cfg a) bad w ++ s.busLog

/-- R112, R108: WRREG, issued while BUSY = 0, answers a next state; if the transport answers OK throughout it sends
header and codeword in the shape CFG.WR_TWO_TXN picks, high byte first, sets WRITTEN, waits and ends with the codeword
in RES0 and check and header in RES1 (waits as log 5 says, the last one too: the tick that ends it reaches FINISH). -/
def Obligations.WrregSendsTheCodeword : Prop :=
  ∀ (s : State) (a : Addr7), s.rst = false → s.status.busy = false →
    let e := encodeWrite s.cfg a (s.opa.setWidth 11)
    ∃ t u, exec (.wrreg a) s = .next t ∧ t.status.busy = true ∧
      performAll (writeMoves s.cfg s.settleMs ++ [okMove]) t = .next u ∧
      u.res0 = e.cw.setWidth 32 ∧ u.res1 = ((e.chk.setWidth 32 <<< 8) ||| e.hdr.setWidth 32) ∧
      u.status = { s.status with done := true, written := true, err := .none, attempts := 0 } ∧
      u.phase = .idle ∧ u.abortPending = false ∧
      u.busLog = writeCalls s.cfg s.devaddr e ++ s.busLog

/-- R95: WRFLD, with a mask the strict check lets through, answers a next state; it reads, merges, waits, writes the
merged value back and ends with the new value in RES0, and the codeword and the old value in RES1. What follows a wait
comes with its last tick, FINISH after the post-write wait too (log 5). -/
def Obligations.WrfldMergesAndWritesBack : Prop :=
  ∀ (s : State) (a : Addr7) (bad : List Codeword) (w : Codeword),
    s.rst = false → s.status.busy = false → bad.length < s.maxAttempts.toNat →
    (s.cfg.strictMask = true → maskOk (s.opb.setWidth 11) = true) →
    (∀ b ∈ bad, (decodeRead b).ok = false) → (decodeRead w).ok = true →
    let m : Val11 := s.opb.setWidth 11
    let rv := (decodeRead w).rv
    let newv : Val11 := (rv &&& ~~~m) ||| (s.opa.setWidth 11 &&& m)
    let e := encodeWrite s.cfg a newv
    ∃ t u, exec (.wrfld a) s = .next t ∧ t.status.busy = true ∧
      performAll (readMoves s.settleMs bad w ++ settleTicks s.settleMs ++ writeMoves s.cfg s.settleMs ++ [okMove]) t =
        .next u ∧
      u.res0 = newv.setWidth 32 ∧ u.res1 = ((e.cw.setWidth 32 <<< 16) ||| rv.setWidth 32) ∧
      u.status = { s.status with
        done := true, written := true, err := .none, attempts := BitVec.ofNat 8 (bad.length + 1) } ∧
      u.phase = .idle ∧ u.abortPending = false ∧
      u.busLog = writeCalls s.cfg s.devaddr e ++ (readCalls s.devaddr (hdrRd s.cfg a) bad w ++ s.busLog)

/-- R105: after MAX_ATTEMPTS responses that all fail validation, each of RDREG, RDFLD and WRFLD ends with
DEVICE_UNRESPONSIVE, with RES0 and RES1 as they were, ATTEMPTS at the bound and no wait after the last attempt (the waits before it as log 5 says). -/
def Obligations.ReadGivesUpAtTheBound : Prop :=
  ∀ (s : State) (a : Addr7) (i : Instr) (bad : List Codeword) (w : Codeword),
    i = .rdreg a ∨ i = .rdfld a ∨ i = .wrfld a →
    s.rst = false → s.status.busy = false → bad.length + 1 = s.maxAttempts.toNat →
    (i ≠ .rdreg a → s.cfg.strictMask = true → maskOk (s.opb.setWidth 11) = true) →
    (∀ b ∈ bad, (decodeRead b).ok = false) → (decodeRead w).ok = false →
    ∃ t u, exec i s = .next t ∧
      performAll (readMoves s.settleMs bad w ++ [okMove]) t = .next u ∧
      u.res0 = s.res0 ∧ u.res1 = s.res1 ∧
      u.status = { s.status with
        done := true, written := false, err := .deviceUnresponsive, attempts := s.maxAttempts } ∧
      u.phase = .idle ∧ u.abortPending = false ∧
      u.busLog = readCalls s.devaddr (hdrRd s.cfg a) bad w ++ s.busLog

/-- R101, R106, R107: after a NACK the rest of the transaction is not sent and its `BusEnd` raises BUS_ERROR; so does a
`BusEnd` answered ERR, and a `BusRequest` answered with fewer than 2 bytes, which is not retried. ATTEMPTS stops at 255
(R24); that `k` stops there with it is the model's reading (log 14), met in no state that meets the invariant. -/
def Obligations.TransportFailureIsABusError : Prop :=
  ∀ (s : State) (r : BusReply), s.rst = false →
    (∀ (t : Txn) (i : Nat) (b : Byte), s.phase = .run (.byte t i) → (txnBytes t s)[i]? = some b → r.ack = false →
      engineStep (some r) s = { s with terr := true, phase := .run (.endTxn t), busLog := .wrote b false :: s.busLog }) ∧
    (∀ t : Txn, s.phase = .run (.endTxn t) → s.terr = true ∨ r.ack = false →
      engineStep (some r) s = { s with phase := .finish .busError none, busLog := .ended r.ack :: s.busLog }) ∧
    (s.phase = .run .request → s.abortPending = false → r.count.val < 2 →
      let n : BitVec 8 := if s.k = 255 then 255 else s.k + 1
      engineStep (some r) s = { s with
        k := n
        status := { s.status with attempts := n }
        phase := .finish .busError none
        busLog := .requested s.snap.dev r.count :: s.busLog })

/-- R100: a settle wait lasts exactly `L.settle + 1` ticks, counting down, and no time at all when `L.settle = 0`; what
follows it comes with its last tick (log 5). -/
def Obligations.SettleWaitLastsOneTickMore : Prop :=
  ∀ (s : State) (g : Gap), s.rst = false →
    (s.snap.settle = 0 → enterWait g s = afterWait g s) ∧
    (s.snap.settle ≠ 0 →
      (enterWait g s).phase = .run (.wait g) ∧
      (∀ n ≤ s.snap.settle.toNat,
        performAll (List.replicate n .tick) (enterWait g s) =
          .next { enterWait g s with wcnt := BitVec.ofNat 9 (s.snap.settle.toNat + 1 - n) }) ∧
      performAll (List.replicate (s.snap.settle.toNat + 1) .tick) (enterWait g s) =
        .next (afterWait g { s with wcnt := 0 }))

/-! ## ABORT (44_control) -/

/-- R113, R39, R65: ABORT is never refused; it sets `abort_pending` while a bus command runs and otherwise has no
effect at all, and a CTRL write is ABORT exactly when its bit 0 is 1. -/
def Obligations.AbortRequestsWhileABusCommandRuns : Prop :=
  ∀ s : State,
    (s.status.busy = true → (s.snap.op = 4 ∨ s.snap.op = 5 ∨ s.snap.op = 6 ∨ s.snap.op = 7) →
      exec .abort s = .next { s with abortPending := true }) ∧
    (s.status.busy = false ∨ ¬(s.snap.op = 4 ∨ s.snap.op = 5 ∨ s.snap.op = 6 ∨ s.snap.op = 7) →
      exec .abort s = .next s) ∧
    (∀ v : Word, s.rst = false →
      hostStep (portWrite .ctrl v) s = if v.getLsbD 0 then exec .abort s else .next s)

/-- R114: inside RUN an engine step raises ABORTED exactly at a safe point with an abort pending, and then it does
nothing else: no primitive is issued and RES0 and RES1 stand. Which step takes the safe point at a wait's entry is the
reading of log 6, and that a pending abort ends an abortable wait without a tick that of log 23. The step of a request
comes only with the transport's answer (R54), so the abort that replaces it does too (log 24). -/
def Obligations.AbortIsTakenExactlyAtSafePoints : Prop :=
  ∀ (s : State) (p : Pos) (r : Option BusReply), s.rst = false → s.phase = .run p →
    ((engineStep r s).phase = .finish .aborted none ↔
      s.abortPending = true ∧ isSafePoint p = true ∧ (p = .request → r ≠ none)) ∧
    (s.abortPending = true → isSafePoint p = true → (p = .request → r ≠ none) →
      engineStep r s = { s with phase := .finish .aborted none })

/-- R114: anywhere else a pending abort makes no difference to the running command's step, nor to any tick. -/
def Obligations.PendingAbortIsInvisibleElsewhere : Prop :=
  ∀ (s : State) (r : Option BusReply) (b : Bool),
    ((∀ p, s.phase = .run p → isSafePoint p = false) → (∀ e res, s.phase ≠ .finish e res) →
      engineStep r { s with abortPending := b } = { engineStep r s with abortPending := b }) ∧
    tickStep { s with abortPending := b } = { tickStep s with abortPending := b }

/-- R54, R129: while the transport has not answered the primitive that is next, an engine step changes nothing; no move
but its answer or a reset moves the command on, ABORT included, and BUSY stays 1. The same of a held wait without a tick,
but for the abort of an abortable one (log 23). -/
def Obligations.HoldEndsOnlyByAnswerTickOrReset : Prop :=
  (∀ (s t : State) (p : Pos) (e : Event), s.status.busy = true → s.phase = .run p → awaitsAnswer p = true →
    (∀ a, e ≠ .engine (some a)) → e ≠ .reset → (∀ b, e ≠ .rst b) → perform e s = .next t →
    t.phase = s.phase ∧ t.status.busy = true ∧ t.busLog = s.busLog ∧ (e = .engine none → t = s)) ∧
  (∀ (s t : State) (g : Gap) (e : Event), s.status.busy = true → s.phase = .run (.wait g) →
    s.abortPending = false ∨ isSafePoint (.wait g) = false →
    e ≠ .tick → e ≠ .reset → (∀ b, e ≠ .rst b) → perform e s = .next t →
    t.phase = s.phase ∧ t.wcnt = s.wcnt ∧ t.status.busy = true ∧ t.busLog = s.busLog)

/-! ## Frames and whole-machine rules -/

/-- Issuing any instruction answers a next state and leaves alone every register but CMD and STATUS, the results, the
working values of the engine, the input `rst`, the bus and the host's data (R66, R113). -/
def Obligations.IssueFrame : Prop :=
  ∀ (i : Instr) (s : State), ∃ t, exec i s = .next t ∧
    (t.opa = s.opa ∧ t.opb = s.opb ∧ t.opc = s.opc ∧ t.res0 = s.res0 ∧ t.res1 = s.res1) ∧
    (t.cfg = s.cfg ∧ t.devaddr = s.devaddr ∧ t.settleMs = s.settleMs ∧ t.maxAttempts = s.maxAttempts) ∧
    (t.k = s.k ∧ t.wcnt = s.wcnt ∧ t.terr = s.terr ∧ t.hi = s.hi ∧ t.lo = s.lo ∧ t.rvOld = s.rvOld ∧ t.newv = s.newv) ∧
    (t.rst = s.rst ∧ t.agenda = s.agenda ∧ t.draws = s.draws ∧ t.readData = s.readData ∧ t.busLog = s.busLog) ∧
    (i.port = .ctrl → t.cmd = s.cmd ∧ t.status = s.status ∧ t.snap = s.snap ∧ t.phase = s.phase) ∧
    (s.status.busy = true → i.port = .cmd →
      t.cmd = s.cmd ∧ t.snap = s.snap ∧ t.phase = s.phase ∧ t.abortPending = s.abortPending)

/-- A tick outside a wait is ignored, and one inside a wait changes at most the tick counter and the phase (R124,
R100). An engine step leaves alone CMD, the operand and configuration registers, the snapshot, OVR, and everything outside
the block but the bus record, to which it adds at most one primitive; RES0, RES1, BUSY, DONE and ERR change only in the
completion step (R27, R37). -/
def Obligations.EngineAndTickFrame : Prop :=
  ∀ (s : State) (r : Option BusReply),
    let t := engineStep r s
    ((∀ g, s.phase ≠ .run (.wait g)) → tickStep s = s) ∧
    tickStep s = { s with wcnt := (tickStep s).wcnt, phase := (tickStep s).phase } ∧
    (t.cmd = s.cmd ∧ t.opa = s.opa ∧ t.opb = s.opb ∧ t.opc = s.opc) ∧
    (t.cfg = s.cfg ∧ t.devaddr = s.devaddr ∧ t.settleMs = s.settleMs ∧ t.maxAttempts = s.maxAttempts) ∧
    (t.snap = s.snap ∧ t.status.ovr = s.status.ovr) ∧
    (t.rst = s.rst ∧ t.agenda = s.agenda ∧ t.draws = s.draws ∧ t.readData = s.readData) ∧
    (t.busLog = s.busLog ∨ ∃ c, c ≠ .cut ∧ t.busLog = c :: s.busLog) ∧
    ((∀ e res, s.phase ≠ .finish e res) →
      t.res0 = s.res0 ∧ t.res1 = s.res1 ∧ t.abortPending = s.abortPending ∧ t.status.busy = s.status.busy ∧
      t.status.done = s.status.done ∧ t.status.err = s.status.err)

/-- R21, R27: only the completion step of a command (and reset) writes RES0 and RES1, with the values its results give;
only the host (and reset) writes OPA, OPB and OPC. -/
def Obligations.ResultsAndOperandsHaveOneWriter : Prop :=
  ∀ (s t : State) (e : Event), perform e s = .next t → e ≠ .reset → (∀ b, e ≠ .rst b) →
    (t.res0 ≠ s.res0 ∨ t.res1 ≠ s.res1 →
      ∃ r err res, e = .engine r ∧ s.phase = .finish err (some res) ∧ t.res0 = res.res0 ∧ t.res1 = res.res1) ∧
    (t.opa ≠ s.opa ∨ t.opb ≠ s.opb ∨ t.opc ≠ s.opc → ∃ a v, e = .host a ∧ a.op = .write v)

/-- R37, R118: the completion step is one engine step; in a state that meets the invariant a fatal error leaves RES0
and RES1 as they were, and an advisory one or none writes the command's results. -/
def Obligations.CompletionIsOneStep : Prop :=
  ∀ (s : State) (r : Option BusReply) (e : ErrCode) (res : Option Results),
    s.rst = false → s.phase = .finish e res →
    let t := engineStep r s
    (Inv s →
      (e ∈ [ErrCode.illegalCmd, .invalidMask, .busError, .deviceUnresponsive, .aborted] →
        t.res0 = s.res0 ∧ t.res1 = s.res1) ∧
      (e ∈ [ErrCode.none, .checksumMismatch, .genZero] →
        ∃ v, res = some v ∧ t.res0 = v.res0 ∧ t.res1 = v.res1)) ∧
    (∀ v, res = some v → t.res0 = v.res0 ∧ t.res1 = v.res1) ∧
    (res = none → t.res0 = s.res0 ∧ t.res1 = s.res1) ∧
    t.status = { s.status with err := e, busy := false, done := true } ∧
    t.abortPending = false ∧ t.phase = .idle ∧
    t = { s with res0 := t.res0, res1 := t.res1, status := t.status, abortPending := false, phase := .idle }

/-- R47, R24: BUSY falls only in a completion step or a reset, so a host that reads BUSY = 0 after acceptance sees that
command's results. -/
def Obligations.BusyFallsOnlyAtCompletion : Prop :=
  ∀ (s t : State) (e : Event), perform e s = .next t → s.status.busy = true → t.status.busy = false →
    (∃ r err res, e = .engine r ∧ s.phase = .finish err res ∧ t = s.complete err res) ∨ e = .reset ∨ e = .rst true

/-- R109: WRITTEN becomes 1 only in the `BusEnd` step, answered OK, of the transaction that carries the codeword, when
no byte of it was refused; and in that step it does become 1. -/
def Obligations.WrittenIsSetOnlyByTheCodewordEnd : Prop :=
  (∀ (s : State) (r : BusReply), s.rst = false →
    (s.phase = .run (.endTxn .whole) ∨ s.phase = .run (.endTxn .codeword)) → s.terr = false → r.ack = true →
      (engineStep (some r) s).status.written = true) ∧
  ∀ (s t : State) (e : Event), perform e s = .next t → s.status.written = false → t.status.written = true →
    ∃ r, e = .engine (some r) ∧ r.ack = true ∧ s.terr = false ∧
      (s.phase = .run (.endTxn .whole) ∨ s.phase = .run (.endTxn .codeword))

/-- R24, R38, R120: OVR is set only by a CMD write while BUSY = 1, and cleared only by a STATUS write with bit 3 set or
by reset. -/
def Obligations.OvrIsSticky : Prop :=
  ∀ (s t : State) (e : Event), perform e s = .next t →
    (s.status.ovr = false → t.status.ovr = true →
      ∃ w, e = .host (portWrite .cmd w) ∧ s.status.busy = true) ∧
    (s.status.ovr = true → t.status.ovr = false →
      (∃ v, e = .host ⟨0x04, 4, .write v⟩ ∧ v.getLsbD 3 = true) ∨ e = .reset ∨ e = .rst true)

/-- R130, R131, R133: a reset from any state, in the middle of any command, leaves every piece of block state at its
reset value, issues no primitive, and the record shows where it cut. While `rst` is asserted no engine step or tick
changes anything. -/
def Obligations.ResetOverridesEverything : Prop :=
  (∀ s : State, perform .reset s =
    .next { State.reset with
      agenda := s.agenda, draws := s.draws, readData := s.readData, busLog := .cut :: s.busLog }) ∧
  (∀ s : State, perform (.rst true) s =
    .next { State.reset with
      rst := true, agenda := s.agenda, draws := s.draws, readData := s.readData, busLog := .cut :: s.busLog }) ∧
  (∀ (s : State) (r : Option BusReply), s.rst = true → engineStep r s = s ∧ tickStep s = s)

/-! ## Invariants -/

/-- The block right after reset meets the invariant (10_state R41). -/
def Obligations.ResetMeetsTheInvariant : Prop := Inv State.reset

/-- Every step keeps the invariant, whichever agent moves and whatever the bus answers: BUSY and the phase agree, the
position fits the command, the WARL fields are legal, the attempt bound holds, an abort is pending only for a bus
command, WRITTEN never stands beside an error, and the bus record is well formed. That ERR reads NONE while BUSY = 1 is
the model's reading of R24, R66 and R120, against R136 (log 15). -/
def Obligations.StepKeepsTheInvariant : Prop :=
  ∀ s t : State, Inv s → step s = .next t → Inv t

/-- R51: the record of the bus port stays one the engine may leave: a `BusBegin` only outside a transaction, a
`BusWrite` and a `BusEnd` only inside one, a `BusRequest` outside, and a `BusRead` only for a byte the answer covers; and
a transaction is open exactly while the engine is between its `BusBegin` and its `BusEnd`. -/
def Obligations.BusRecordStaysWellFormed : Prop :=
  ∀ (s t : State), Inv s → step s = .next t →
    busOk t.busLog = true ∧
    (txnOpen t.busLog = true ↔ (∃ x i, t.phase = .run (.byte x i)) ∨ ∃ x, t.phase = .run (.endTxn x)) ∧
    (t.phase = .idle → txnOpen t.busLog = false)

/-- R104: while a command runs, STATUS.ATTEMPTS rises by one with each `BusRequest` the engine issues and at no other
time, up to the bound. -/
def Obligations.AttemptsCountRequests : Prop :=
  ∀ (s : State) (r : Option BusReply), Inv s → s.status.busy = true →
    let t := engineStep r s
    t.status.attempts.toNat + requests s.busLog = s.status.attempts.toNat + requests t.busLog ∧
    t.status.attempts ≤ s.snap.max

/-- R113, R114, R115: when an engine step raises ABORTED, the command's write has not begun, WRITTEN = 0, no transaction
is open, and the step issues no primitive. A write begins with the `BusBegin` of its first transaction, and once begun it
stays so, through the wait between the two transactions of a two-transaction write, until the command ends with another
code than ABORTED (or a reset cuts it). -/
def Obligations.AbortNeverCutsAWrite : Prop :=
  (∀ (s : State) (r : Option BusReply), Inv s → s.status.busy = true → (∀ e res, s.phase ≠ .finish e res) →
    (engineStep r s).phase = .finish .aborted none →
    writeBegun s.phase = false ∧ (engineStep r s).status.written = false ∧ txnOpen s.busLog = false ∧
    (engineStep r s).busLog = s.busLog) ∧
  (∀ (s : State) (r : Option BusReply) (x : Txn), s.phase = .run (.beginTxn x) → x ≠ .address →
    (engineStep r s).busLog ≠ s.busLog → writeBegun (engineStep r s).phase = true) ∧
  (∀ (s t : State) (e : Event), Inv s → writeBegun s.phase = true → e ≠ .reset → (∀ b, e ≠ .rst b) →
    perform e s = .next t →
    writeBegun t.phase = true ∨ ∃ err res, t.phase = .finish err res ∧ err ≠ .aborted)

/-- R129, the step of its argument: every move that gets a running command on brings it nearer its end, and no other move
of HOST, ENGINE or TICK takes it further away. That such moves come, and so that the command ends, is the fairness R129
asks of BUS and TICK: it is not claimed here (log 18). An engine step without the answer it awaits is no such move. A
pending abort also ends an abortable wait with no tick at all, by the engine's step there (log 23). -/
def Obligations.ProgressingMovesBringTheEndNearer : Prop :=
  (∀ s : State, movesLeft s = 0 ↔ s.phase = .idle) ∧
  (∀ (s t : State) (e : Event), Inv s → s.status.busy = true → progresses s e = true → perform e s = .next t →
    movesLeft t < movesLeft s) ∧
  (∀ (s t : State) (e : Event), Inv s → s.status.busy = true → e ≠ .reset → (∀ b, e ≠ .rst b) →
    perform e s = .next t → movesLeft t ≤ movesLeft s)

/-! ## The checksum engine (40_checksum_engine) -/

open Polynomial in
/-- R82(a): for a nonzero generator the checksum is the remainder of `m(x) x^n + (f mod 2^n)(x)` divided by `gen(x)`
over GF(2), where a word's bit `i` is the coefficient of `x^i`. -/
def Obligations.ChecksumIsThePolynomialRemainder : Prop :=
  let poly : Word → (ZMod 2)[X] := fun x => ∑ i ∈ Finset.range 32, if x.getLsbD i then X ^ i else 0
  ∀ m gen f : Word, gen ≠ 0 →
    let n := bitlen gen - 1
    poly (checksum m gen f) = (poly m * X ^ n + poly (f &&& BitVec.ofNat 32 (2 ^ n - 1))) %ₘ poly gen

/-- R82(b): the checksum is linear, for every generator, zero included. -/
def Obligations.ChecksumIsLinear : Prop :=
  ∀ m₁ m₂ gen f₁ f₂ : Word,
    checksum (m₁ ^^^ m₂) gen (f₁ ^^^ f₂) = checksum m₁ gen f₁ ^^^ checksum m₂ gen f₂

/-- R82(c), R82(d): a message verifies with its own fresh check, for every generator; and a filler that fits is added to
the fresh check, so that it verifies exactly when it is the fresh check. -/
def Obligations.ChecksumRoundTripAndDuality : Prop :=
  (∀ m gen : Word, checksum m gen (checksum m gen 0) = 0) ∧
  (∀ m gen f : Word, gen ≠ 0 → f.toNat < 2 ^ (bitlen gen - 1) →
    checksum m gen f = checksum m gen 0 ^^^ f ∧ (checksum m gen f = 0 ↔ f = checksum m gen 0))

/-- R81: the working word is below `2^63`, each loop step lowers its `bitlen`, `bitlen(m)` loop steps are enough and so
are 32 (with more the division gives the same), and the result is below `2^n` and below `2^31`. -/
def Obligations.ChecksumBounds : Prop :=
  ∀ m gen f : Word, gen ≠ 0 →
    let n := bitlen gen - 1
    (checksum m gen f).toNat < 2 ^ n ∧ (checksum m gen f).toNat < 2 ^ 31 ∧
    (workWord m f n).toNat < 2 ^ 63 ∧
    (∀ w : BitVec 64, w >>> n ≠ 0 → bitlen (divStep (gen.setWidth 64) w) < bitlen w) ∧
    bitlen m ≤ 32 ∧
    ∀ fuel, bitlen m ≤ fuel →
      divLoop (gen.setWidth 64) n fuel (workWord m f n) = divLoop (gen.setWidth 64) n 32 (workWord m f n)

/-- R78: a division step clears the working word's most significant 1 and changes no bit outside the window of the
generator's `g` bits below it. -/
def Obligations.DivisionStepClearsTheTopBit : Prop :=
  ∀ gen w : BitVec 64, gen ≠ 0 → bitlen gen ≤ bitlen w →
    bitlen (divStep gen w) < bitlen w ∧
    ∀ i, i < bitlen w - bitlen gen ∨ bitlen w ≤ i → (divStep gen w).getLsbD i = w.getLsbD i

/-- R79: only the low `n` bits of the filler are used; for a filler that fits this is a plain OR; and the rule's
example. -/
def Obligations.FillerIsTakenModuloTwoToTheN : Prop :=
  (∀ m gen f : Word, gen ≠ 0 →
    checksum m gen f = checksum m gen (BitVec.ofNat 32 (f.toNat % 2 ^ (bitlen gen - 1)))) ∧
  (∀ (m f : Word) (n : Nat), n < 32 → f.toNat < 2 ^ n →
    workWord m f n = (m.setWidth 64 <<< n) ||| f.setWidth 64) ∧
  checksum 0x507 0xB 0xF = 6 ∧ checksum 0x507 0xB 0x7 = 6

/-- R80: the corners of the generator and of the message; with a 32-bit generator the working word can reach 63 bits
and the result 31. -/
def Obligations.GeneratorCorners : Prop :=
  (∀ m f : Word, checksum m 0 f = f) ∧
  (∀ m f : Word, checksum m 1 f = 0) ∧
  (∀ m gen f : Word, bitlen gen = 32 →
    bitlen gen - 1 = 31 ∧ bitlen (workWord m f 31) ≤ 63 ∧ bitlen (checksum m gen f) ≤ 31) ∧
  (∃ m gen f : Word, bitlen gen = 32 ∧ bitlen (workWord m f 31) = 63 ∧ bitlen (checksum m gen f) = 31) ∧
  (∀ gen f : Word, gen ≠ 0 → f.toNat < 2 ^ (bitlen gen - 1) → checksum 0 gen f = f) ∧
  (∀ gen f : Word, gen ≠ 0 → checksum 0 gen f = BitVec.ofNat 32 (f.toNat % 2 ^ (bitlen gen - 1)))

/-- R83: under the codec's generator every single-bit flip of the message or of the three check bits changes the
result, a flip of a higher filler bit changes nothing, and every burst of at most 3 adjacent bits of the working word
changes the result (a burst on the message, on the check bits, or across both). -/
def Obligations.SingleFlipsAndShortBurstsAreDetected : Prop :=
  (∀ m f : Word, ∀ i < 32, checksum (m ^^^ ((1 : Word) <<< i)) codecGen f ≠ checksum m codecGen f) ∧
  (∀ m f : Word, ∀ i < 3, checksum m codecGen (f ^^^ ((1 : Word) <<< i)) ≠ checksum m codecGen f) ∧
  (∀ m f : Word, ∀ i, 3 ≤ i → i < 32 → checksum m codecGen (f ^^^ ((1 : Word) <<< i)) = checksum m codecGen f) ∧
  (∀ (m f dm df : Word) (b : BitVec 3) (k : Nat), b ≠ 0 → k ≤ 32 → df.toNat < 8 →
    dm.toNat * 8 + df.toNat = b.toNat * 2 ^ k →
    checksum (m ^^^ dm) codecGen (f ^^^ df) ≠ checksum m codecGen f)

/-! ## The wire formats and the codec (30_encoding, 41_register_codec) -/

/-- R68 to R72, R15: the fields of a codeword and of the check messages, with no overlap; a header byte is the register
address with, in bit 7, its parity when enabled and 0 otherwise, and with the parity its ones are even in number; bits
4:3 of a response take part in nothing. R85, R86: what `encode_write` and `decode_read` return in each part, for every
value and for every received word, invalid ones too. -/
def Obligations.WireLayouts : Prop :=
  (∀ (v : Val11) (chk : Chk),
    (codeword v chk).extractLsb' 5 11 = v ∧ (codeword v chk).extractLsb' 3 2 = (0b11 : BitVec 2) ∧
    (codeword v chk).extractLsb' 0 3 = chk) ∧
  (∀ v : Val11, cmr v = (v.extractLsb' 3 8 ++ 0#5 ++ v.extractLsb' 0 3).setWidth 32) ∧
  (∀ (c : Cfg) (a : Addr7) (v : Val11), 16 ≤ c.wrAddrPos.toNat → c.wrAddrPos.toNat ≤ 25 →
    cmw c a v = if c.wrAddrInCheck then cmr v + (a.setWidth 32 <<< c.wrAddrPos.toNat) else cmr v) ∧
  (∀ (c : Cfg) (a : Addr7),
    ((hdrWr c a).extractLsb' 0 7 = a ∧ (hdrWr c a).getLsbD 7 = (c.wrHdrParity && par7 a)) ∧
    ((hdrRd c a).extractLsb' 0 7 = a ∧ (hdrRd c a).getLsbD 7 = (c.rdHdrParity && par7 a)) ∧
    ((List.range 8).countP (fun i => (header true a).getLsbD i)) % 2 = 0) ∧
  (∀ w w' : Codeword, w &&& 0xFFE7 = w' &&& 0xFFE7 → decodeRead w = decodeRead w') ∧
  (∀ (c : Cfg) (a : Addr7) (v : Val11),
    let e := encodeWrite c a v
    e.hdr = hdrWr c a ∧ e.chk = (checksum (cmw c a v) 0xB 0).setWidth 3 ∧ e.cw = codeword v e.chk) ∧
  (∀ w : Codeword,
    let d := decodeRead w
    d.rv = w.extractLsb' 5 11 ∧ d.chk = w.extractLsb' 0 3 ∧
    d.synd = (checksum (cmr d.rv) 0xB (d.chk.setWidth 32)).setWidth 3 ∧ (d.ok = true ↔ d.synd = 0))

/-- R87(a), R87(c), R87(d): a codeword written with the address out of the check reads back as valid, with its value and
check; its check bits are linear in the value; its framing and value fields are as they should be in every
configuration. -/
def Obligations.CodewordReadsBackValid : Prop :=
  (∀ (c : Cfg) (a : Addr7) (v : Val11), c.wrAddrInCheck = false →
    let e := encodeWrite c a v
    decodeRead e.cw = { rv := v, chk := e.chk, synd := 0, ok := true }) ∧
  (∀ (c : Cfg) (a : Addr7) (v₁ v₂ : Val11), c.wrAddrInCheck = false →
    (encodeWrite c a (v₁ ^^^ v₂)).chk = (encodeWrite c a v₁).chk ^^^ (encodeWrite c a v₂).chk) ∧
  (∀ (c : Cfg) (a : Addr7) (v : Val11),
    (encodeWrite c a v).cw.extractLsb' 3 2 = (0b11 : BitVec 2) ∧ (encodeWrite c a v).cw.extractLsb' 5 11 = v)

/-- R87(b): with the address in the check, the codeword's syndrome on the read path is that of the shifted address, and
it is 0 for the 16 listed addresses alone. -/
def Obligations.AddressInCheckFailsOnTheReadPath : Prop :=
  ∀ (c : Cfg) (a : Addr7) (v : Val11),
    c.wrAddrInCheck = true → 16 ≤ c.wrAddrPos.toNat → c.wrAddrPos.toNat ≤ 25 →
    let d := decodeRead (encodeWrite c a v).cw
    d.synd = (checksum (a.setWidth 32 <<< c.wrAddrPos.toNat) codecGen 0).setWidth 3 ∧
    (d.ok = true ↔
      a ∈ [0x00, 0x0B, 0x16, 0x1D, 0x27, 0x2C, 0x31, 0x3A, 0x45, 0x4E, 0x53, 0x58, 0x62, 0x69, 0x74, (0x7F : Addr7)])

/-! ## The mask functions (42_masked_accessor) -/

/-- R90, R16: a mask passes the strict check exactly when its set bits form one unbroken run. -/
def Obligations.MaskOkMeansOneRun : Prop :=
  ∀ m : Val11, maskOk m = true ↔
    ∃ lo len : Nat, 1 ≤ len ∧ lo + len ≤ 11 ∧ ∀ i < 11, m.getLsbD i = decide (lo ≤ i ∧ i < lo + len)

/-- R97, R91, R92: a merge changes only the bits the mask selects, merging twice is merging once, and extracting with
the same mask gives the merged field back, right-aligned. -/
def Obligations.FieldMergeLaws : Prop :=
  ∀ rv m val : Val11,
    fieldMerge rv m val &&& ~~~m = rv &&& ~~~m ∧
    fieldMerge (fieldMerge rv m val) m val = fieldMerge rv m val ∧
    fieldExtract (fieldMerge rv m val) m = (val &&& m) >>> ctz m ∧
    (∀ i, i < ctz m → m.getLsbD i = false) ∧ (m ≠ 0 → m.getLsbD (ctz m) = true)
end

