-- ==== Sys2Proof/Laws/Gf2.lean ====
section
/-! SUPPORT. What `bitlen` says about the bits of a word, and when the division loop has ended. -/

namespace Sys2Proof.Machine

variable {w : Nat}

theorem bitlenBelow_le (x : BitVec w) (n : Nat) : bitlenBelow x n ≤ n := by
  induction n with
  | zero => simp [bitlenBelow]
  | succ n ih => unfold bitlenBelow; split <;> omega

/-- `bitlen` is at most the width. -/
theorem bitlen_le (x : BitVec w) : bitlen x ≤ w := bitlenBelow_le x w

theorem getLsbD_of_bitlenBelow_le (x : BitVec w) {n i : Nat} (h : bitlenBelow x n ≤ i) (hi : i < n) :
    x.getLsbD i = false := by
  induction n with
  | zero => omega
  | succ n ih =>
    unfold bitlenBelow at h
    split at h
    · omega
    · rename_i hx
      by_cases hin : i = n
      · subst hin; simpa using hx
      · exact ih h (by omega)

/-- No bit at or above `bitlen` is set. -/
theorem getLsbD_of_bitlen_le (x : BitVec w) {i : Nat} (h : bitlen x ≤ i) : x.getLsbD i = false := by
  by_cases hi : i < w
  · exact getLsbD_of_bitlenBelow_le x h hi
  · exact BitVec.getLsbD_of_ge x i (by omega)

theorem getLsbD_bitlenBelow_pred (x : BitVec w) {n : Nat} (h : bitlenBelow x n ≠ 0) :
    x.getLsbD (bitlenBelow x n - 1) = true := by
  induction n with
  | zero => simp [bitlenBelow] at h
  | succ n ih =>
    unfold bitlenBelow at h ⊢
    split
    · simpa
    · rename_i hx
      simp only [hx, if_neg, Bool.false_eq_true, not_false_eq_true] at h
      exact ih h

/-- The bit just below `bitlen` is set. -/
theorem getLsbD_bitlen_pred (x : BitVec w) (h : bitlen x ≠ 0) : x.getLsbD (bitlen x - 1) = true :=
  getLsbD_bitlenBelow_pred x h

/-- `bitlen` is 0 for 0 alone. -/
theorem bitlen_eq_zero_iff (x : BitVec w) : bitlen x = 0 ↔ x = 0 := by
  constructor
  · intro h
    apply BitVec.eq_of_getLsbD_eq
    intro i _
    simp [getLsbD_of_bitlen_le x (i := i) (by omega)]
  · rintro rfl
    by_contra h
    have := getLsbD_bitlen_pred (0 : BitVec w) h
    simp at this

/-- `bitlen` is at most `n` when no bit from `n` on is set. -/
theorem bitlen_le_of (x : BitVec w) {n : Nat} (h : ∀ i, n ≤ i → x.getLsbD i = false) : bitlen x ≤ n := by
  by_contra hc
  have h1 := getLsbD_bitlen_pred x (by omega)
  rw [h _ (by omega)] at h1
  simp at h1

/-- The loop's test: no bit at position `n` or above is set. -/
theorem ushiftRight_eq_zero_iff (x : BitVec w) (n : Nat) : x >>> n = 0 ↔ bitlen x ≤ n := by
  constructor
  · intro h
    apply bitlen_le_of
    intro i hi
    have := congrArg (fun y => y.getLsbD (i - n)) h
    simpa [show n + (i - n) = i by omega] using this
  · intro h
    apply BitVec.eq_of_getLsbD_eq
    intro i _
    simp [getLsbD_of_bitlen_le x (i := n + i) (by omega)]

/-- The loop stops where it is when nothing is left to divide. -/
theorem divLoop_done (gen x : BitVec 64) (n fuel : Nat) (h : bitlen x ≤ n) : divLoop gen n fuel x = x := by
  cases fuel with
  | zero => rfl
  | succ k => simp [divLoop, (ushiftRight_eq_zero_iff x n).2 h]

/-- The loop takes a step when something is left to divide. -/
theorem divLoop_step (gen x : BitVec 64) (n fuel : Nat) (h : n < bitlen x) :
    divLoop gen n (fuel + 1) x = divLoop gen n fuel (divStep gen x) := by
  have : ¬ (x >>> n = 0) := fun hc => absurd ((ushiftRight_eq_zero_iff x n).1 hc) (by omega)
  simp only [divLoop, if_neg this]

/-- A zero generator gives the filler back (40_checksum_engine R80). -/
theorem checksum_of_bitlen_zero {m gen f : Word} (h : bitlen gen = 0) : checksum m gen f = f := by
  simp [checksum, h]

/-- The checksum of a generator that is not zero. -/
theorem checksum_of_bitlen_pos {m gen f : Word} (h : bitlen gen ≠ 0) :
    checksum m gen f =
      (divLoop (gen.setWidth 64) (bitlen gen - 1) 32 (workWord m f (bitlen gen - 1))).setWidth 32 := by
  simp [checksum, h]

end Sys2Proof.Machine
end

