-- ==== Sys2Proof/Laws/State.lean ====
section
/-! SUPPORT. One lemma per field for each update of the state, so that no later proof unfolds an update. -/

namespace Sys2Proof.Machine

variable (s : State)

/-! `State.goto` -/

@[simp] theorem State.goto_cmd (p : Phase) : (s.goto p).cmd = s.cmd := rfl
@[simp] theorem State.goto_status (p : Phase) : (s.goto p).status = s.status := rfl
@[simp] theorem State.goto_opa (p : Phase) : (s.goto p).opa = s.opa := rfl
@[simp] theorem State.goto_opb (p : Phase) : (s.goto p).opb = s.opb := rfl
@[simp] theorem State.goto_opc (p : Phase) : (s.goto p).opc = s.opc := rfl
@[simp] theorem State.goto_res0 (p : Phase) : (s.goto p).res0 = s.res0 := rfl
@[simp] theorem State.goto_res1 (p : Phase) : (s.goto p).res1 = s.res1 := rfl
@[simp] theorem State.goto_cfg (p : Phase) : (s.goto p).cfg = s.cfg := rfl
@[simp] theorem State.goto_devaddr (p : Phase) : (s.goto p).devaddr = s.devaddr := rfl
@[simp] theorem State.goto_settleMs (p : Phase) : (s.goto p).settleMs = s.settleMs := rfl
@[simp] theorem State.goto_maxAttempts (p : Phase) : (s.goto p).maxAttempts = s.maxAttempts := rfl
@[simp] theorem State.goto_phase (p : Phase) : (s.goto p).phase = p := rfl
@[simp] theorem State.goto_snap (p : Phase) : (s.goto p).snap = s.snap := rfl
@[simp] theorem State.goto_abortPending (p : Phase) : (s.goto p).abortPending = s.abortPending := rfl
@[simp] theorem State.goto_k (p : Phase) : (s.goto p).k = s.k := rfl
@[simp] theorem State.goto_wcnt (p : Phase) : (s.goto p).wcnt = s.wcnt := rfl
@[simp] theorem State.goto_terr (p : Phase) : (s.goto p).terr = s.terr := rfl
@[simp] theorem State.goto_hi (p : Phase) : (s.goto p).hi = s.hi := rfl
@[simp] theorem State.goto_lo (p : Phase) : (s.goto p).lo = s.lo := rfl
@[simp] theorem State.goto_rvOld (p : Phase) : (s.goto p).rvOld = s.rvOld := rfl
@[simp] theorem State.goto_newv (p : Phase) : (s.goto p).newv = s.newv := rfl
@[simp] theorem State.goto_rst (p : Phase) : (s.goto p).rst = s.rst := rfl
@[simp] theorem State.goto_agenda (p : Phase) : (s.goto p).agenda = s.agenda := rfl
@[simp] theorem State.goto_draws (p : Phase) : (s.goto p).draws = s.draws := rfl
@[simp] theorem State.goto_readData (p : Phase) : (s.goto p).readData = s.readData := rfl
@[simp] theorem State.goto_busLog (p : Phase) : (s.goto p).busLog = s.busLog := rfl

/-! `State.logBus` -/

@[simp] theorem State.logBus_cmd (c : BusCall) : (s.logBus c).cmd = s.cmd := rfl
@[simp] theorem State.logBus_status (c : BusCall) : (s.logBus c).status = s.status := rfl
@[simp] theorem State.logBus_opa (c : BusCall) : (s.logBus c).opa = s.opa := rfl
@[simp] theorem State.logBus_opb (c : BusCall) : (s.logBus c).opb = s.opb := rfl
@[simp] theorem State.logBus_opc (c : BusCall) : (s.logBus c).opc = s.opc := rfl
@[simp] theorem State.logBus_res0 (c : BusCall) : (s.logBus c).res0 = s.res0 := rfl
@[simp] theorem State.logBus_res1 (c : BusCall) : (s.logBus c).res1 = s.res1 := rfl
@[simp] theorem State.logBus_cfg (c : BusCall) : (s.logBus c).cfg = s.cfg := rfl
@[simp] theorem State.logBus_devaddr (c : BusCall) : (s.logBus c).devaddr = s.devaddr := rfl
@[simp] theorem State.logBus_settleMs (c : BusCall) : (s.logBus c).settleMs = s.settleMs := rfl
@[simp] theorem State.logBus_maxAttempts (c : BusCall) : (s.logBus c).maxAttempts = s.maxAttempts := rfl
@[simp] theorem State.logBus_phase (c : BusCall) : (s.logBus c).phase = s.phase := rfl
@[simp] theorem State.logBus_snap (c : BusCall) : (s.logBus c).snap = s.snap := rfl
@[simp] theorem State.logBus_abortPending (c : BusCall) : (s.logBus c).abortPending = s.abortPending := rfl
@[simp] theorem State.logBus_k (c : BusCall) : (s.logBus c).k = s.k := rfl
@[simp] theorem State.logBus_wcnt (c : BusCall) : (s.logBus c).wcnt = s.wcnt := rfl
@[simp] theorem State.logBus_terr (c : BusCall) : (s.logBus c).terr = s.terr := rfl
@[simp] theorem State.logBus_hi (c : BusCall) : (s.logBus c).hi = s.hi := rfl
@[simp] theorem State.logBus_lo (c : BusCall) : (s.logBus c).lo = s.lo := rfl
@[simp] theorem State.logBus_rvOld (c : BusCall) : (s.logBus c).rvOld = s.rvOld := rfl
@[simp] theorem State.logBus_newv (c : BusCall) : (s.logBus c).newv = s.newv := rfl
@[simp] theorem State.logBus_rst (c : BusCall) : (s.logBus c).rst = s.rst := rfl
@[simp] theorem State.logBus_agenda (c : BusCall) : (s.logBus c).agenda = s.agenda := rfl
@[simp] theorem State.logBus_draws (c : BusCall) : (s.logBus c).draws = s.draws := rfl
@[simp] theorem State.logBus_readData (c : BusCall) : (s.logBus c).readData = s.readData := rfl
@[simp] theorem State.logBus_busLog (c : BusCall) : (s.logBus c).busLog = c :: s.busLog := rfl

/-! `State.finishWith` -/

@[simp] theorem State.finishWith_cmd (e : ErrCode) (v : Results) : (s.finishWith e v).cmd = s.cmd := rfl
@[simp] theorem State.finishWith_status (e : ErrCode) (v : Results) : (s.finishWith e v).status = s.status := rfl
@[simp] theorem State.finishWith_opa (e : ErrCode) (v : Results) : (s.finishWith e v).opa = s.opa := rfl
@[simp] theorem State.finishWith_opb (e : ErrCode) (v : Results) : (s.finishWith e v).opb = s.opb := rfl
@[simp] theorem State.finishWith_opc (e : ErrCode) (v : Results) : (s.finishWith e v).opc = s.opc := rfl
@[simp] theorem State.finishWith_res0 (e : ErrCode) (v : Results) : (s.finishWith e v).res0 = s.res0 := rfl
@[simp] theorem State.finishWith_res1 (e : ErrCode) (v : Results) : (s.finishWith e v).res1 = s.res1 := rfl
@[simp] theorem State.finishWith_cfg (e : ErrCode) (v : Results) : (s.finishWith e v).cfg = s.cfg := rfl
@[simp] theorem State.finishWith_devaddr (e : ErrCode) (v : Results) : (s.finishWith e v).devaddr = s.devaddr := rfl
@[simp] theorem State.finishWith_settleMs (e : ErrCode) (v : Results) : (s.finishWith e v).settleMs = s.settleMs := rfl
@[simp] theorem State.finishWith_maxAttempts (e : ErrCode) (v : Results) : (s.finishWith e v).maxAttempts = s.maxAttempts := rfl
@[simp] theorem State.finishWith_phase (e : ErrCode) (v : Results) : (s.finishWith e v).phase = .finish e (some v) := rfl
@[simp] theorem State.finishWith_snap (e : ErrCode) (v : Results) : (s.finishWith e v).snap = s.snap := rfl
@[simp] theorem State.finishWith_abortPending (e : ErrCode) (v : Results) : (s.finishWith e v).abortPending = s.abortPending := rfl
@[simp] theorem State.finishWith_k (e : ErrCode) (v : Results) : (s.finishWith e v).k = s.k := rfl
@[simp] theorem State.finishWith_wcnt (e : ErrCode) (v : Results) : (s.finishWith e v).wcnt = s.wcnt := rfl
@[simp] theorem State.finishWith_terr (e : ErrCode) (v : Results) : (s.finishWith e v).terr = s.terr := rfl
@[simp] theorem State.finishWith_hi (e : ErrCode) (v : Results) : (s.finishWith e v).hi = s.hi := rfl
@[simp] theorem State.finishWith_lo (e : ErrCode) (v : Results) : (s.finishWith e v).lo = s.lo := rfl
@[simp] theorem State.finishWith_rvOld (e : ErrCode) (v : Results) : (s.finishWith e v).rvOld = s.rvOld := rfl
@[simp] theorem State.finishWith_newv (e : ErrCode) (v : Results) : (s.finishWith e v).newv = s.newv := rfl
@[simp] theorem State.finishWith_rst (e : ErrCode) (v : Results) : (s.finishWith e v).rst = s.rst := rfl
@[simp] theorem State.finishWith_agenda (e : ErrCode) (v : Results) : (s.finishWith e v).agenda = s.agenda := rfl
@[simp] theorem State.finishWith_draws (e : ErrCode) (v : Results) : (s.finishWith e v).draws = s.draws := rfl
@[simp] theorem State.finishWith_readData (e : ErrCode) (v : Results) : (s.finishWith e v).readData = s.readData := rfl
@[simp] theorem State.finishWith_busLog (e : ErrCode) (v : Results) : (s.finishWith e v).busLog = s.busLog := rfl

/-! `State.raise` -/

@[simp] theorem State.raise_cmd (e : ErrCode) : (s.raise e).cmd = s.cmd := rfl
@[simp] theorem State.raise_status (e : ErrCode) : (s.raise e).status = s.status := rfl
@[simp] theorem State.raise_opa (e : ErrCode) : (s.raise e).opa = s.opa := rfl
@[simp] theorem State.raise_opb (e : ErrCode) : (s.raise e).opb = s.opb := rfl
@[simp] theorem State.raise_opc (e : ErrCode) : (s.raise e).opc = s.opc := rfl
@[simp] theorem State.raise_res0 (e : ErrCode) : (s.raise e).res0 = s.res0 := rfl
@[simp] theorem State.raise_res1 (e : ErrCode) : (s.raise e).res1 = s.res1 := rfl
@[simp] theorem State.raise_cfg (e : ErrCode) : (s.raise e).cfg = s.cfg := rfl
@[simp] theorem State.raise_devaddr (e : ErrCode) : (s.raise e).devaddr = s.devaddr := rfl
@[simp] theorem State.raise_settleMs (e : ErrCode) : (s.raise e).settleMs = s.settleMs := rfl
@[simp] theorem State.raise_maxAttempts (e : ErrCode) : (s.raise e).maxAttempts = s.maxAttempts := rfl
@[simp] theorem State.raise_phase (e : ErrCode) : (s.raise e).phase = .finish e none := rfl
@[simp] theorem State.raise_snap (e : ErrCode) : (s.raise e).snap = s.snap := rfl
@[simp] theorem State.raise_abortPending (e : ErrCode) : (s.raise e).abortPending = s.abortPending := rfl
@[simp] theorem State.raise_k (e : ErrCode) : (s.raise e).k = s.k := rfl
@[simp] theorem State.raise_wcnt (e : ErrCode) : (s.raise e).wcnt = s.wcnt := rfl
@[simp] theorem State.raise_terr (e : ErrCode) : (s.raise e).terr = s.terr := rfl
@[simp] theorem State.raise_hi (e : ErrCode) : (s.raise e).hi = s.hi := rfl
@[simp] theorem State.raise_lo (e : ErrCode) : (s.raise e).lo = s.lo := rfl
@[simp] theorem State.raise_rvOld (e : ErrCode) : (s.raise e).rvOld = s.rvOld := rfl
@[simp] theorem State.raise_newv (e : ErrCode) : (s.raise e).newv = s.newv := rfl
@[simp] theorem State.raise_rst (e : ErrCode) : (s.raise e).rst = s.rst := rfl
@[simp] theorem State.raise_agenda (e : ErrCode) : (s.raise e).agenda = s.agenda := rfl
@[simp] theorem State.raise_draws (e : ErrCode) : (s.raise e).draws = s.draws := rfl
@[simp] theorem State.raise_readData (e : ErrCode) : (s.raise e).readData = s.readData := rfl
@[simp] theorem State.raise_busLog (e : ErrCode) : (s.raise e).busLog = s.busLog := rfl

/-! `State.complete` -/

@[simp] theorem State.complete_cmd (e : ErrCode) (v : Option Results) : (s.complete e v).cmd = s.cmd := rfl
@[simp] theorem State.complete_status (e : ErrCode) (v : Option Results) : (s.complete e v).status = s.status.completed e := rfl
@[simp] theorem State.complete_opa (e : ErrCode) (v : Option Results) : (s.complete e v).opa = s.opa := rfl
@[simp] theorem State.complete_opb (e : ErrCode) (v : Option Results) : (s.complete e v).opb = s.opb := rfl
@[simp] theorem State.complete_opc (e : ErrCode) (v : Option Results) : (s.complete e v).opc = s.opc := rfl
@[simp] theorem State.complete_res0 (e : ErrCode) (v : Option Results) : (s.complete e v).res0 = (v.map Results.res0).getD s.res0 := rfl
@[simp] theorem State.complete_res1 (e : ErrCode) (v : Option Results) : (s.complete e v).res1 = (v.map Results.res1).getD s.res1 := rfl
@[simp] theorem State.complete_cfg (e : ErrCode) (v : Option Results) : (s.complete e v).cfg = s.cfg := rfl
@[simp] theorem State.complete_devaddr (e : ErrCode) (v : Option Results) : (s.complete e v).devaddr = s.devaddr := rfl
@[simp] theorem State.complete_settleMs (e : ErrCode) (v : Option Results) : (s.complete e v).settleMs = s.settleMs := rfl
@[simp] theorem State.complete_maxAttempts (e : ErrCode) (v : Option Results) : (s.complete e v).maxAttempts = s.maxAttempts := rfl
@[simp] theorem State.complete_phase (e : ErrCode) (v : Option Results) : (s.complete e v).phase = .idle := rfl
@[simp] theorem State.complete_snap (e : ErrCode) (v : Option Results) : (s.complete e v).snap = s.snap := rfl
@[simp] theorem State.complete_abortPending (e : ErrCode) (v : Option Results) : (s.complete e v).abortPending = false := rfl
@[simp] theorem State.complete_k (e : ErrCode) (v : Option Results) : (s.complete e v).k = s.k := rfl
@[simp] theorem State.complete_wcnt (e : ErrCode) (v : Option Results) : (s.complete e v).wcnt = s.wcnt := rfl
@[simp] theorem State.complete_terr (e : ErrCode) (v : Option Results) : (s.complete e v).terr = s.terr := rfl
@[simp] theorem State.complete_hi (e : ErrCode) (v : Option Results) : (s.complete e v).hi = s.hi := rfl
@[simp] theorem State.complete_lo (e : ErrCode) (v : Option Results) : (s.complete e v).lo = s.lo := rfl
@[simp] theorem State.complete_rvOld (e : ErrCode) (v : Option Results) : (s.complete e v).rvOld = s.rvOld := rfl
@[simp] theorem State.complete_newv (e : ErrCode) (v : Option Results) : (s.complete e v).newv = s.newv := rfl
@[simp] theorem State.complete_rst (e : ErrCode) (v : Option Results) : (s.complete e v).rst = s.rst := rfl
@[simp] theorem State.complete_agenda (e : ErrCode) (v : Option Results) : (s.complete e v).agenda = s.agenda := rfl
@[simp] theorem State.complete_draws (e : ErrCode) (v : Option Results) : (s.complete e v).draws = s.draws := rfl
@[simp] theorem State.complete_readData (e : ErrCode) (v : Option Results) : (s.complete e v).readData = s.readData := rfl
@[simp] theorem State.complete_busLog (e : ErrCode) (v : Option Results) : (s.complete e v).busLog = s.busLog := rfl

/-! `State.dropCmd` -/

@[simp] theorem State.dropCmd_cmd : (s.dropCmd).cmd = s.cmd := rfl
@[simp] theorem State.dropCmd_status : (s.dropCmd).status = { s.status with ovr := true } := rfl
@[simp] theorem State.dropCmd_opa : (s.dropCmd).opa = s.opa := rfl
@[simp] theorem State.dropCmd_opb : (s.dropCmd).opb = s.opb := rfl
@[simp] theorem State.dropCmd_opc : (s.dropCmd).opc = s.opc := rfl
@[simp] theorem State.dropCmd_res0 : (s.dropCmd).res0 = s.res0 := rfl
@[simp] theorem State.dropCmd_res1 : (s.dropCmd).res1 = s.res1 := rfl
@[simp] theorem State.dropCmd_cfg : (s.dropCmd).cfg = s.cfg := rfl
@[simp] theorem State.dropCmd_devaddr : (s.dropCmd).devaddr = s.devaddr := rfl
@[simp] theorem State.dropCmd_settleMs : (s.dropCmd).settleMs = s.settleMs := rfl
@[simp] theorem State.dropCmd_maxAttempts : (s.dropCmd).maxAttempts = s.maxAttempts := rfl
@[simp] theorem State.dropCmd_phase : (s.dropCmd).phase = s.phase := rfl
@[simp] theorem State.dropCmd_snap : (s.dropCmd).snap = s.snap := rfl
@[simp] theorem State.dropCmd_abortPending : (s.dropCmd).abortPending = s.abortPending := rfl
@[simp] theorem State.dropCmd_k : (s.dropCmd).k = s.k := rfl
@[simp] theorem State.dropCmd_wcnt : (s.dropCmd).wcnt = s.wcnt := rfl
@[simp] theorem State.dropCmd_terr : (s.dropCmd).terr = s.terr := rfl
@[simp] theorem State.dropCmd_hi : (s.dropCmd).hi = s.hi := rfl
@[simp] theorem State.dropCmd_lo : (s.dropCmd).lo = s.lo := rfl
@[simp] theorem State.dropCmd_rvOld : (s.dropCmd).rvOld = s.rvOld := rfl
@[simp] theorem State.dropCmd_newv : (s.dropCmd).newv = s.newv := rfl
@[simp] theorem State.dropCmd_rst : (s.dropCmd).rst = s.rst := rfl
@[simp] theorem State.dropCmd_agenda : (s.dropCmd).agenda = s.agenda := rfl
@[simp] theorem State.dropCmd_draws : (s.dropCmd).draws = s.draws := rfl
@[simp] theorem State.dropCmd_readData : (s.dropCmd).readData = s.readData := rfl
@[simp] theorem State.dropCmd_busLog : (s.dropCmd).busLog = s.busLog := rfl

/-! `State.beginAccept` -/

@[simp] theorem State.beginAccept_cmd (w : Word) : (s.beginAccept w).cmd = w := rfl
@[simp] theorem State.beginAccept_status (w : Word) : (s.beginAccept w).status = s.status.cleared := rfl
@[simp] theorem State.beginAccept_opa (w : Word) : (s.beginAccept w).opa = s.opa := rfl
@[simp] theorem State.beginAccept_opb (w : Word) : (s.beginAccept w).opb = s.opb := rfl
@[simp] theorem State.beginAccept_opc (w : Word) : (s.beginAccept w).opc = s.opc := rfl
@[simp] theorem State.beginAccept_res0 (w : Word) : (s.beginAccept w).res0 = s.res0 := rfl
@[simp] theorem State.beginAccept_res1 (w : Word) : (s.beginAccept w).res1 = s.res1 := rfl
@[simp] theorem State.beginAccept_cfg (w : Word) : (s.beginAccept w).cfg = s.cfg := rfl
@[simp] theorem State.beginAccept_devaddr (w : Word) : (s.beginAccept w).devaddr = s.devaddr := rfl
@[simp] theorem State.beginAccept_settleMs (w : Word) : (s.beginAccept w).settleMs = s.settleMs := rfl
@[simp] theorem State.beginAccept_maxAttempts (w : Word) : (s.beginAccept w).maxAttempts = s.maxAttempts := rfl
@[simp] theorem State.beginAccept_phase (w : Word) : (s.beginAccept w).phase = s.phase := rfl
@[simp] theorem State.beginAccept_snap (w : Word) : (s.beginAccept w).snap = s.snap := rfl
@[simp] theorem State.beginAccept_abortPending (w : Word) : (s.beginAccept w).abortPending = false := rfl
@[simp] theorem State.beginAccept_k (w : Word) : (s.beginAccept w).k = s.k := rfl
@[simp] theorem State.beginAccept_wcnt (w : Word) : (s.beginAccept w).wcnt = s.wcnt := rfl
@[simp] theorem State.beginAccept_terr (w : Word) : (s.beginAccept w).terr = s.terr := rfl
@[simp] theorem State.beginAccept_hi (w : Word) : (s.beginAccept w).hi = s.hi := rfl
@[simp] theorem State.beginAccept_lo (w : Word) : (s.beginAccept w).lo = s.lo := rfl
@[simp] theorem State.beginAccept_rvOld (w : Word) : (s.beginAccept w).rvOld = s.rvOld := rfl
@[simp] theorem State.beginAccept_newv (w : Word) : (s.beginAccept w).newv = s.newv := rfl
@[simp] theorem State.beginAccept_rst (w : Word) : (s.beginAccept w).rst = s.rst := rfl
@[simp] theorem State.beginAccept_agenda (w : Word) : (s.beginAccept w).agenda = s.agenda := rfl
@[simp] theorem State.beginAccept_draws (w : Word) : (s.beginAccept w).draws = s.draws := rfl
@[simp] theorem State.beginAccept_readData (w : Word) : (s.beginAccept w).readData = s.readData := rfl
@[simp] theorem State.beginAccept_busLog (w : Word) : (s.beginAccept w).busLog = s.busLog := rfl

/-! `State.refuseCmd` -/

@[simp] theorem State.refuseCmd_cmd (e : ErrCode) : (s.refuseCmd e).cmd = s.cmd := rfl
@[simp] theorem State.refuseCmd_status (e : ErrCode) : (s.refuseCmd e).status = { s.status with err := e, done := true } := rfl
@[simp] theorem State.refuseCmd_opa (e : ErrCode) : (s.refuseCmd e).opa = s.opa := rfl
@[simp] theorem State.refuseCmd_opb (e : ErrCode) : (s.refuseCmd e).opb = s.opb := rfl
@[simp] theorem State.refuseCmd_opc (e : ErrCode) : (s.refuseCmd e).opc = s.opc := rfl
@[simp] theorem State.refuseCmd_res0 (e : ErrCode) : (s.refuseCmd e).res0 = s.res0 := rfl
@[simp] theorem State.refuseCmd_res1 (e : ErrCode) : (s.refuseCmd e).res1 = s.res1 := rfl
@[simp] theorem State.refuseCmd_cfg (e : ErrCode) : (s.refuseCmd e).cfg = s.cfg := rfl
@[simp] theorem State.refuseCmd_devaddr (e : ErrCode) : (s.refuseCmd e).devaddr = s.devaddr := rfl
@[simp] theorem State.refuseCmd_settleMs (e : ErrCode) : (s.refuseCmd e).settleMs = s.settleMs := rfl
@[simp] theorem State.refuseCmd_maxAttempts (e : ErrCode) : (s.refuseCmd e).maxAttempts = s.maxAttempts := rfl
@[simp] theorem State.refuseCmd_phase (e : ErrCode) : (s.refuseCmd e).phase = s.phase := rfl
@[simp] theorem State.refuseCmd_snap (e : ErrCode) : (s.refuseCmd e).snap = s.snap := rfl
@[simp] theorem State.refuseCmd_abortPending (e : ErrCode) : (s.refuseCmd e).abortPending = s.abortPending := rfl
@[simp] theorem State.refuseCmd_k (e : ErrCode) : (s.refuseCmd e).k = s.k := rfl
@[simp] theorem State.refuseCmd_wcnt (e : ErrCode) : (s.refuseCmd e).wcnt = s.wcnt := rfl
@[simp] theorem State.refuseCmd_terr (e : ErrCode) : (s.refuseCmd e).terr = s.terr := rfl
@[simp] theorem State.refuseCmd_hi (e : ErrCode) : (s.refuseCmd e).hi = s.hi := rfl
@[simp] theorem State.refuseCmd_lo (e : ErrCode) : (s.refuseCmd e).lo = s.lo := rfl
@[simp] theorem State.refuseCmd_rvOld (e : ErrCode) : (s.refuseCmd e).rvOld = s.rvOld := rfl
@[simp] theorem State.refuseCmd_newv (e : ErrCode) : (s.refuseCmd e).newv = s.newv := rfl
@[simp] theorem State.refuseCmd_rst (e : ErrCode) : (s.refuseCmd e).rst = s.rst := rfl
@[simp] theorem State.refuseCmd_agenda (e : ErrCode) : (s.refuseCmd e).agenda = s.agenda := rfl
@[simp] theorem State.refuseCmd_draws (e : ErrCode) : (s.refuseCmd e).draws = s.draws := rfl
@[simp] theorem State.refuseCmd_readData (e : ErrCode) : (s.refuseCmd e).readData = s.readData := rfl
@[simp] theorem State.refuseCmd_busLog (e : ErrCode) : (s.refuseCmd e).busLog = s.busLog := rfl

/-! `State.takeSnapshot` -/

@[simp] theorem State.takeSnapshot_cmd (op : BitVec 4) (a : Addr7) : (s.takeSnapshot op a).cmd = s.cmd := rfl
@[simp] theorem State.takeSnapshot_status (op : BitVec 4) (a : Addr7) : (s.takeSnapshot op a).status = s.status := rfl
@[simp] theorem State.takeSnapshot_opa (op : BitVec 4) (a : Addr7) : (s.takeSnapshot op a).opa = s.opa := rfl
@[simp] theorem State.takeSnapshot_opb (op : BitVec 4) (a : Addr7) : (s.takeSnapshot op a).opb = s.opb := rfl
@[simp] theorem State.takeSnapshot_opc (op : BitVec 4) (a : Addr7) : (s.takeSnapshot op a).opc = s.opc := rfl
@[simp] theorem State.takeSnapshot_res0 (op : BitVec 4) (a : Addr7) : (s.takeSnapshot op a).res0 = s.res0 := rfl
@[simp] theorem State.takeSnapshot_res1 (op : BitVec 4) (a : Addr7) : (s.takeSnapshot op a).res1 = s.res1 := rfl
@[simp] theorem State.takeSnapshot_cfg (op : BitVec 4) (a : Addr7) : (s.takeSnapshot op a).cfg = s.cfg := rfl
@[simp] theorem State.takeSnapshot_devaddr (op : BitVec 4) (a : Addr7) : (s.takeSnapshot op a).devaddr = s.devaddr := rfl
@[simp] theorem State.takeSnapshot_settleMs (op : BitVec 4) (a : Addr7) : (s.takeSnapshot op a).settleMs = s.settleMs := rfl
@[simp] theorem State.takeSnapshot_maxAttempts (op : BitVec 4) (a : Addr7) : (s.takeSnapshot op a).maxAttempts = s.maxAttempts := rfl
@[simp] theorem State.takeSnapshot_phase (op : BitVec 4) (a : Addr7) : (s.takeSnapshot op a).phase = s.phase := rfl
@[simp] theorem State.takeSnapshot_snap (op : BitVec 4) (a : Addr7) : (s.takeSnapshot op a).snap = ⟨op, a, s.opa, s.opb, s.opc, s.cfg, s.devaddr, s.settleMs, s.maxAttempts⟩ := rfl
@[simp] theorem State.takeSnapshot_abortPending (op : BitVec 4) (a : Addr7) : (s.takeSnapshot op a).abortPending = s.abortPending := rfl
@[simp] theorem State.takeSnapshot_k (op : BitVec 4) (a : Addr7) : (s.takeSnapshot op a).k = s.k := rfl
@[simp] theorem State.takeSnapshot_wcnt (op : BitVec 4) (a : Addr7) : (s.takeSnapshot op a).wcnt = s.wcnt := rfl
@[simp] theorem State.takeSnapshot_terr (op : BitVec 4) (a : Addr7) : (s.takeSnapshot op a).terr = s.terr := rfl
@[simp] theorem State.takeSnapshot_hi (op : BitVec 4) (a : Addr7) : (s.takeSnapshot op a).hi = s.hi := rfl
@[simp] theorem State.takeSnapshot_lo (op : BitVec 4) (a : Addr7) : (s.takeSnapshot op a).lo = s.lo := rfl
@[simp] theorem State.takeSnapshot_rvOld (op : BitVec 4) (a : Addr7) : (s.takeSnapshot op a).rvOld = s.rvOld := rfl
@[simp] theorem State.takeSnapshot_newv (op : BitVec 4) (a : Addr7) : (s.takeSnapshot op a).newv = s.newv := rfl
@[simp] theorem State.takeSnapshot_rst (op : BitVec 4) (a : Addr7) : (s.takeSnapshot op a).rst = s.rst := rfl
@[simp] theorem State.takeSnapshot_agenda (op : BitVec 4) (a : Addr7) : (s.takeSnapshot op a).agenda = s.agenda := rfl
@[simp] theorem State.takeSnapshot_draws (op : BitVec 4) (a : Addr7) : (s.takeSnapshot op a).draws = s.draws := rfl
@[simp] theorem State.takeSnapshot_readData (op : BitVec 4) (a : Addr7) : (s.takeSnapshot op a).readData = s.readData := rfl
@[simp] theorem State.takeSnapshot_busLog (op : BitVec 4) (a : Addr7) : (s.takeSnapshot op a).busLog = s.busLog := rfl

/-! `State.startCmd` -/

@[simp] theorem State.startCmd_cmd (p : Phase) : (s.startCmd p).cmd = s.cmd := rfl
@[simp] theorem State.startCmd_status (p : Phase) : (s.startCmd p).status = { s.status with busy := true } := rfl
@[simp] theorem State.startCmd_opa (p : Phase) : (s.startCmd p).opa = s.opa := rfl
@[simp] theorem State.startCmd_opb (p : Phase) : (s.startCmd p).opb = s.opb := rfl
@[simp] theorem State.startCmd_opc (p : Phase) : (s.startCmd p).opc = s.opc := rfl
@[simp] theorem State.startCmd_res0 (p : Phase) : (s.startCmd p).res0 = s.res0 := rfl
@[simp] theorem State.startCmd_res1 (p : Phase) : (s.startCmd p).res1 = s.res1 := rfl
@[simp] theorem State.startCmd_cfg (p : Phase) : (s.startCmd p).cfg = s.cfg := rfl
@[simp] theorem State.startCmd_devaddr (p : Phase) : (s.startCmd p).devaddr = s.devaddr := rfl
@[simp] theorem State.startCmd_settleMs (p : Phase) : (s.startCmd p).settleMs = s.settleMs := rfl
@[simp] theorem State.startCmd_maxAttempts (p : Phase) : (s.startCmd p).maxAttempts = s.maxAttempts := rfl
@[simp] theorem State.startCmd_phase (p : Phase) : (s.startCmd p).phase = p := rfl
@[simp] theorem State.startCmd_snap (p : Phase) : (s.startCmd p).snap = s.snap := rfl
@[simp] theorem State.startCmd_abortPending (p : Phase) : (s.startCmd p).abortPending = s.abortPending := rfl
@[simp] theorem State.startCmd_k (p : Phase) : (s.startCmd p).k = s.k := rfl
@[simp] theorem State.startCmd_wcnt (p : Phase) : (s.startCmd p).wcnt = s.wcnt := rfl
@[simp] theorem State.startCmd_terr (p : Phase) : (s.startCmd p).terr = s.terr := rfl
@[simp] theorem State.startCmd_hi (p : Phase) : (s.startCmd p).hi = s.hi := rfl
@[simp] theorem State.startCmd_lo (p : Phase) : (s.startCmd p).lo = s.lo := rfl
@[simp] theorem State.startCmd_rvOld (p : Phase) : (s.startCmd p).rvOld = s.rvOld := rfl
@[simp] theorem State.startCmd_newv (p : Phase) : (s.startCmd p).newv = s.newv := rfl
@[simp] theorem State.startCmd_rst (p : Phase) : (s.startCmd p).rst = s.rst := rfl
@[simp] theorem State.startCmd_agenda (p : Phase) : (s.startCmd p).agenda = s.agenda := rfl
@[simp] theorem State.startCmd_draws (p : Phase) : (s.startCmd p).draws = s.draws := rfl
@[simp] theorem State.startCmd_readData (p : Phase) : (s.startCmd p).readData = s.readData := rfl
@[simp] theorem State.startCmd_busLog (p : Phase) : (s.startCmd p).busLog = s.busLog := rfl

/-! STATUS -/

@[simp] theorem Status.cleared_busy (st : Status) : st.cleared.busy = st.busy := rfl
@[simp] theorem Status.cleared_done (st : Status) : st.cleared.done = false := rfl
@[simp] theorem Status.cleared_written (st : Status) : st.cleared.written = false := rfl
@[simp] theorem Status.cleared_ovr (st : Status) : st.cleared.ovr = st.ovr := rfl
@[simp] theorem Status.cleared_err (st : Status) : st.cleared.err = .none := rfl
@[simp] theorem Status.cleared_attempts (st : Status) : st.cleared.attempts = 0 := rfl
@[simp] theorem Status.completed_busy (st : Status) (e : ErrCode) : (st.completed e).busy = false := rfl
@[simp] theorem Status.completed_done (st : Status) (e : ErrCode) : (st.completed e).done = true := rfl
@[simp] theorem Status.completed_written (st : Status) (e : ErrCode) : (st.completed e).written = st.written := rfl
@[simp] theorem Status.completed_ovr (st : Status) (e : ErrCode) : (st.completed e).ovr = st.ovr := rfl
@[simp] theorem Status.completed_err (st : Status) (e : ErrCode) : (st.completed e).err = e := rfl
@[simp] theorem Status.completed_attempts (st : Status) (e : ErrCode) : (st.completed e).attempts = st.attempts := rfl
@[simp] theorem Status.hostWrite_busy (st : Status) (v : Word) : (st.hostWrite v).busy = st.busy := rfl
@[simp] theorem Status.hostWrite_written (st : Status) (v : Word) : (st.hostWrite v).written = st.written := rfl
@[simp] theorem Status.hostWrite_err (st : Status) (v : Word) : (st.hostWrite v).err = st.err := rfl
@[simp] theorem Status.hostWrite_attempts (st : Status) (v : Word) : (st.hostWrite v).attempts = st.attempts := rfl

end Sys2Proof.Machine
end

