-- ==== Sys2Proof/Laws/Ops.lean ====
section
/-! SUPPORT. What each shared operation can do, said once: issuing, a safe point, a settle wait, each agent's move, and
moves in order. -/

namespace Sys2Proof.Machine

open Sys2Proof.Safety

/-! ### Issuing an instruction (30_encoding R66) -/

/-- While BUSY = 1 a command is dropped. -/
theorem issue_busy {s : State} (i : Instr) (h : s.status.busy = true) : issue i s = s.dropCmd := by
  simp [issue, h]

/-- While BUSY = 0 a command is accepted. -/
theorem issue_idle {s : State} (i : Instr) (h : s.status.busy = false) : issue i s = acceptCmd i s := by
  simp [issue, h]

/-- Acceptance ends the command at once on a refused mask, and else starts it. -/
theorem acceptCmd_cases (i : Instr) (s : State) :
    let t := (s.beginAccept (encode i)).takeSnapshot i.op i.raddr
    (maskRefused t.snap = true ∧ acceptCmd i s = t.refuseCmd .invalidMask) ∨
    (maskRefused t.snap = false ∧ acceptCmd i s = t.startCmd (startPhase t.snap)) := by
  intro t
  by_cases h : maskRefused t.snap = true
  · exact .inl ⟨h, if_pos h⟩
  · exact .inr ⟨by simpa using h, if_neg h⟩

/-- Every instruction answers a next state: a command is issued, ABORT is requested. -/
theorem exec_eq (i : Instr) (s : State) :
    exec i s = .next (match i.port with | .cmd => issue i s | .ctrl => s.requestAbort) := by
  cases i <;> rfl

/-- An abort request sets `abort_pending` or does nothing. -/
theorem requestAbort_cases (s : State) :
    (s.status.busy = true ∧ isBusOp s.snap.op = true ∧ s.requestAbort = { s with abortPending := true }) ∨
    ((s.status.busy = false ∨ isBusOp s.snap.op = false) ∧ s.requestAbort = s) := by
  unfold State.requestAbort
  cases s.status.busy <;> cases isBusOp s.snap.op <;> simp

/-! ### Parts of the procedures (43_register_transfer) -/

/-- A safe point raises a pending abort in place of the action. -/
theorem atSafePoint_pending {s : State} (act : State) (h : s.abortPending = true) :
    atSafePoint s act = s.raise .aborted := by
  simp [atSafePoint, h]

/-- Without a pending abort a safe point does nothing. -/
theorem atSafePoint_clear {s : State} (act : State) (h : s.abortPending = false) : atSafePoint s act = act := by
  simp [atSafePoint, h]

/-- An unanswered primitive holds the engine. -/
@[simp] theorem onAnswer_none (act : BusReply → State → State) (s : State) : onAnswer none act s = s := rfl

/-- An answered primitive is performed. -/
@[simp] theorem onAnswer_some (a : BusReply) (act : BusReply → State → State) (s : State) :
    onAnswer (some a) act s = act a s := rfl

/-- Without an answer the engine changes nothing where it awaits one. -/
theorem busStep_unanswered {p : Pos} (s : State) (h : awaitsAnswer p = true) : busStep p none s = s := by
  cases p <;> first | rfl | cases h

/-- Entering a wait skips it when there is nothing to wait for, and else holds `L.settle + 1` ticks. -/
theorem enterWait_cases (g : Gap) (s : State) :
    (s.snap.settle = 0 ∧ enterWait g s = afterWait g s) ∨
    (s.snap.settle ≠ 0 ∧ enterWait g s = { s with wcnt := s.snap.settle.setWidth 9 + 1, phase := .run (.wait g) }) := by
  unfold enterWait
  split <;> simp_all

/-- What follows a wait changes the phase alone. -/
theorem afterWait_eq (g : Gap) (s : State) : afterWait g s = { s with phase := (afterWait g s).phase } := by
  cases g <;> rfl

/-- Entering a wait changes the phase and the tick counter alone. -/
theorem enterWait_eq (g : Gap) (s : State) :
    enterWait g s = { s with wcnt := (enterWait g s).wcnt, phase := (enterWait g s).phase } := by
  rcases enterWait_cases g s with ⟨_, h⟩ | ⟨_, h⟩
  · rw [h, afterWait_eq]
  · rw [h]

/-- A tick of a wait changes the phase and the tick counter alone. -/
theorem tickWait_eq (g : Gap) (s : State) :
    tickWait g s = { s with wcnt := (tickWait g s).wcnt, phase := (tickWait g s).phase } := by
  unfold tickWait
  split
  · rw [afterWait_eq]
  · rfl

/-! ### The agents -/

/-- While `rst` is asserted the engine takes no step. -/
theorem engineStep_rst {s : State} (r : Option BusReply) (h : s.rst = true) : engineStep r s = s := by
  simp [engineStep, h]

/-- An engine step by phase, `rst` deasserted. -/
theorem engineStep_eq {s : State} (r : Option BusReply) (h : s.rst = false) :
    engineStep r s =
      match s.phase with
      | .idle         => s
      | .exec         => pureStep s
      | .run p        => busStep p r s
      | .finish e res => s.complete e res := by
  cases hp : s.phase <;> simp [engineStep, h, hp]

/-- A tick inside a wait, `rst` deasserted. -/
theorem tickStep_wait {s : State} {g : Gap} (h : s.rst = false) (hp : s.phase = .run (.wait g)) :
    tickStep s = tickWait g s := by
  simp [tickStep, h, hp]

/-- A word written to CMD is dropped, refused as illegal, or accepted as the command it encodes. -/
theorem writeCmd_cases (v : Word) (s : State) :
    (s.status.busy = true ∧ writeCmd v s = .next s.dropCmd) ∨
    (s.status.busy = false ∧ (∃ e, decodeCmd v = .error e) ∧
      writeCmd v s = .next ((s.beginAccept v).refuseCmd .illegalCmd)) ∨
    (∃ i, s.status.busy = false ∧ decodeCmd v = .ok i ∧ i.port = .cmd ∧ writeCmd v s = .next (acceptCmd i s)) := by
  have hport : ∀ i, decodeCmd v = .ok i → i.port = .cmd := by
    intro i h
    simp only [decodeCmd, instrOf] at h
    split at h <;> try simp at h
    split at h <;> (try split at h) <;> simp at h <;> subst h <;> rfl
  unfold writeCmd
  cases hd : decodeCmd v with
  | error e =>
    cases hb : s.status.busy <;> simp [issueIllegal, hb]
  | ok i =>
    have hp := hport i hd
    cases hb : s.status.busy <;> simp [exec_eq, hp, issue, hb]

/-! ### Moves in order -/

@[simp] theorem performAll_nil (s : State) : performAll [] s = .next s := rfl

/-- The first move done, the others follow. -/
theorem performAll_cons {e : Event} {s t : State} (es : List Event) (h : perform e s = .next t) :
    performAll (e :: es) s = performAll es t := by
  simp [performAll, h]

/-- A first part done, the rest follows. -/
theorem performAll_append {es es' : List Event} {s t : State} (h : performAll es s = .next t) :
    performAll (es ++ es') s = performAll es' t := by
  induction es generalizing s with
  | nil => simp_all
  | cons e es ih =>
    simp only [List.cons_append, performAll] at h ⊢
    cases hp : perform e s with
    | next u => simp only [hp] at h ⊢; exact ih h
    | fault f => simp [hp] at h
    | refused r => simp [hp] at h

/-- The next move is the oldest placed one. -/
theorem step_placed {s : State} {e : Event} {es : List Event} (h : s.agenda = e :: es) :
    step s = perform e { s with agenda := es } := by
  simp [step, nextEvent, h]

end Sys2Proof.Machine
end

