-- ==== Sys2Proof/Laws/PerInstr.lean ====
section
/-! SUPPORT. Facts about every instruction as syntax, one lemma per constructor. -/

namespace Sys2Proof.Laws

/-- The family `WordFields`: the word of a command carries its OP and RADDR in their places and zeros above them
(30_encoding R60, R62), and the word of ABORT has bit 0 set (R65). -/
def WordFields.Statement (i : Instr) : Prop :=
  match i.port with
  | .cmd  => splitCmd (encode i) = ⟨0, i.raddr, i.op⟩
  | .ctrl => (encode i).getLsbD 0 = true

/-- Bit `j` of a joined word, below 32. -/
theorem getLsbD_joinCmd (f : CmdFields) {j : Nat} (h : j < 32) :
    (joinCmd f).getLsbD j =
      if j < 4 then f.op.getLsbD j else if j - 4 < 7 then f.raddr.getLsbD (j - 4) else f.upper.getLsbD (j - 4 - 7) := by
  simp only [joinCmd, BitVec.getLsbD_setWidth, BitVec.getLsbD_append, h, decide_true, Bool.true_and]

/-- The fields of a joined word. -/
theorem splitCmd_joinCmd (f : CmdFields) : splitCmd (joinCmd f) = f := by
  have upper : (joinCmd f).extractLsb' 11 21 = f.upper := by
    apply BitVec.eq_of_getLsbD_eq
    intro i hi
    rw [BitVec.getLsbD_extractLsb', getLsbD_joinCmd f (by omega), if_neg (by omega), if_neg (by omega),
      show 11 + i - 4 - 7 = i by omega]
    simp [hi]
  have raddr : (joinCmd f).extractLsb' 4 7 = f.raddr := by
    apply BitVec.eq_of_getLsbD_eq
    intro i hi
    rw [BitVec.getLsbD_extractLsb', getLsbD_joinCmd f (by omega), if_neg (by omega), if_pos (by omega),
      show 4 + i - 4 = i by omega]
    simp [hi]
  have op : (joinCmd f).extractLsb' 0 4 = f.op := by
    apply BitVec.eq_of_getLsbD_eq
    intro i hi
    rw [BitVec.getLsbD_extractLsb', getLsbD_joinCmd f (by omega), if_pos (by omega), show 0 + i = i by omega]
    simp [hi]
  simp [splitCmd, upper, raddr, op]

theorem WordFields.crc : WordFields.Statement .crc := splitCmd_joinCmd _
theorem WordFields.enc (a : Addr7) : WordFields.Statement (.enc a) := splitCmd_joinCmd _
theorem WordFields.dec : WordFields.Statement .dec := splitCmd_joinCmd _
theorem WordFields.rdreg (a : Addr7) : WordFields.Statement (.rdreg a) := splitCmd_joinCmd _
theorem WordFields.wrreg (a : Addr7) : WordFields.Statement (.wrreg a) := splitCmd_joinCmd _
theorem WordFields.rdfld (a : Addr7) : WordFields.Statement (.rdfld a) := splitCmd_joinCmd _
theorem WordFields.wrfld (a : Addr7) : WordFields.Statement (.wrfld a) := splitCmd_joinCmd _
theorem WordFields.abort : WordFields.Statement .abort := rfl

/-- Every instruction is well formed. -/
theorem instr_wf (i : Instr) : i.wf = true := by
  have h : ∀ (a : Addr7) (op : BitVec 4), (⟨0, a, op⟩ : CmdFields).wf = true → (splitCmd (joinCmd ⟨0, a, op⟩)).wf = true :=
    fun a op h => by rw [splitCmd_joinCmd]; exact h
  cases i with
  | crc => exact h _ _ rfl
  | enc a => exact h _ _ rfl
  | dec => exact h _ _ rfl
  | rdreg a => exact h _ _ rfl
  | wrreg a => exact h _ _ rfl
  | rdfld a => exact h _ _ rfl
  | wrfld a => exact h _ _ rfl
  | abort => rfl

end Sys2Proof.Laws
end

