-- ==== Sys2Proof/Tests/Slice0.lean ====
section
/-! SUPPORT. The model's own tests: well-formedness, decoding, spec vectors, one step on small states, and for each
statement with hypotheses a state and operands that meet them. Expected results are from spec/ (the rule or the vector of
95_test_vectors is named), never from the model. -/

namespace Sys2Proof.Tests

open Sys2Proof Sys2Proof.Machine Sys2Proof.Safety

/-! ### Well-formedness: one ill-formed term per check (30_encoding R63, 20_memory R43) -/

theorem test_wf_accepts : (⟨0, 0x7F, 4⟩ : CmdFields).wf = true := by decide
theorem test_wf_upper : (⟨1, 0, 2⟩ : CmdFields).wf = false := by decide
theorem test_wf_op_zero : (⟨0, 0, 0⟩ : CmdFields).wf = false := by decide
theorem test_wf_op_eight : (⟨0, 0, 8⟩ : CmdFields).wf = false := by decide
theorem test_wf_raddr_crc : (⟨0, 1, 1⟩ : CmdFields).wf = false := by decide
theorem test_wf_raddr_dec : (⟨0, 3, 3⟩ : CmdFields).wf = false := by decide
theorem test_wf_access_width : (⟨0x00, 2, .read⟩ : HostAccess).wf = false := by decide
theorem test_wf_access_aligned : (⟨0x02, 4, .read⟩ : HostAccess).wf = false := by decide

/-! ### Decoding: words written out bit by bit, upper bits, RADDR, OP (30_encoding R60, R62, R74) -/

theorem test_decode_crc : decodeCmd 0b000000000000000000000_0000000_0001 = .ok .crc := by decide
theorem test_decode_enc : decodeCmd 0b000000000000000000000_0000010_0010 = .ok (.enc 0x02) := by decide
theorem test_decode_dec : decodeCmd 0b000000000000000000000_0000000_0011 = .ok .dec := by decide
theorem test_decode_rdreg : decodeCmd 0b000000000000000000000_1111111_0100 = .ok (.rdreg 0x7F) := by decide
theorem test_decode_wrreg : decodeCmd 0b000000000000000000000_0000010_0101 = .ok (.wrreg 0x02) := by decide
theorem test_decode_rdfld : decodeCmd 0b000000000000000000000_0000001_0110 = .ok (.rdfld 0x01) := by decide
theorem test_decode_wrfld : decodeCmd 0b000000000000000000000_1000000_0111 = .ok (.wrfld 0x40) := by decide
theorem test_decode_abort : decodeCtrl 0b10000000000000000000000000000001 = .ok .abort := by decide
theorem test_decode_ctrl_zero : decodeCtrl 0xFFFFFFFE = .error .noAbortBit := by decide
/-- K1 to K3, K5, K6, K8, K9. -/
theorem test_decode_k1 : decodeCmd 0x00000000 = .error .opUnknown := by decide
theorem test_decode_k3 : decodeCmd 0x0000000F = .error .opUnknown := by decide
theorem test_decode_k5 : decodeCmd 0x00000011 = .error .raddrNotZero := by decide
theorem test_decode_k6 : decodeCmd 0x00000033 = .error .raddrNotZero := by decide
theorem test_decode_k8 : decodeCmd 0x00000804 = .error .upperNotZero := by decide
theorem test_decode_k9 : decodeCmd 0x80000002 = .error .upperNotZero := by decide
/-- The examples of 30_encoding R74. -/
theorem test_encode_rdfld : encode (.rdfld 0x01) = 0x00000016 := by decide
theorem test_encode_enc : encode (.enc 0x02) = 0x00000022 := by decide

/-- The same word is CRC as a 32-bit command and ABORT as a CTRL write (30_encoding R65). -/
theorem test_table_crc : decodeTableWord 32 1 = some .crc := by decide
theorem test_table_abort : decodeTableWord 8 1 = some .abort := by decide
theorem test_fetch_rdfld : step (State.reset.withFetchWord 32 0x16) = exec (.rdfld 0x01) State.reset := rfl
theorem test_fetch_abort : step (State.reset.withFetchWord 8 0x01) = exec .abort State.reset := rfl

/-! ### The checksum engine (95_test_vectors section 2) -/

theorem test_crc_c1 : checksum 0x507 0xB 0 = 1 := by decide
theorem test_crc_c4 : checksum 0x507 0xB 0xF = 6 := by decide
theorem test_crc_c15 : checksum 0x1234 0 0x55 = 0x55 := by decide
theorem test_crc_c18 : checksum 0xFFFFFFFF 1 0xFFFFFFFF = 0 := by decide
theorem test_crc_c22 : checksum 0xFFFFFFFF 0x80000000 0x12345678 = 0x12345678 := by decide
theorem test_crc_c25 : checksum 0xDEADBEEF 0x04C11DB7 0 = 0x010AD02D := by decide

/-! ### The codec (95_test_vectors sections 3 and 4) -/

theorem test_enc_n7 : encodeWrite .reset 0x02 47 = ⟨0x02, 0x05F9, 1⟩ := by decide
theorem test_enc_parity : hdrWr { Cfg.reset with wrHdrParity := true } 0x02 = 0x82 := by decide
theorem test_enc_address_in_check :
    (encodeWrite { Cfg.reset with wrAddrInCheck := true } 0x02 47).cw = 0x05FC := by decide
theorem test_dec_d1 : decodeRead 0x05F9 = ⟨47, 1, 0, true⟩ := by decide
theorem test_dec_d2 : decodeRead 0x05F8 = ⟨47, 0, 1, false⟩ := by decide
theorem test_dec_d5 : decodeRead 0x05E1 = ⟨47, 1, 0, true⟩ := by decide
theorem test_dec_d8 : decodeRead 0xFFFF = ⟨0x7FF, 7, 3, false⟩ := by decide
theorem test_dec_res1_d4 : (decodedResults (decodeRead 0x05FD)).res1 = 0x045 := by decide

/-! ### The mask functions (95_test_vectors section 5) -/

theorem test_mask_x3 : maskOk 0x01C = true ∧ fieldExtract 0x5A5 0x01C = 0x1 ∧ fieldMerge 0x5A5 0x01C 0x0F0 = 0x5B1 := by
  decide
theorem test_mask_x6 : maskOk 0x7FE = true ∧ fieldExtract 0x5A5 0x7FE = 0x2D2 ∧ fieldMerge 0x5A5 0x7FE 0x0F0 = 0x0F1 := by
  decide
theorem test_mask_x7 : maskOk 0x000 = false ∧ fieldExtract 0x5A5 0x000 = 0 ∧ fieldMerge 0x5A5 0x000 0x0F0 = 0x5A5 := by
  decide
theorem test_mask_x9 : maskOk 0x101 = false ∧ fieldExtract 0x5A5 0x101 = 0x101 := by decide

/-! ### Register words (95_test_vectors section 9) -/

theorem test_cfg_g3 : (Cfg.ofWrite 0xFFFFFFFF).toWord = 0x0000191F := by decide
theorem test_cfg_g4 : (Cfg.ofWrite 0x00000300).toWord = 0x00001000 := by decide
theorem test_retry_g6 : retryOfWrite 0 = 1 := by decide
theorem test_retry_g7 : retryOfWrite 0x1FF = 0xFF := by decide
theorem test_id_g1 : regRead 0x30 State.reset = 0x00180B01 := by decide
theorem test_cfg_fields :
    Cfg.ofWrite 0x00001402 = { Cfg.zero with wrTwoTxn := true, wrAddrPos := 20 } := by decide
theorem test_status_t3 : (Status.mk false true false false .deviceUnresponsive 2).toWord = 0x00000262 := by decide

/-! ### Small states -/

/-- The state of a next outcome, or the reset state. -/
def after : Result → State
  | .next s    => s
  | .fault _   => State.reset
  | .refused _ => State.reset

/-- Right after reset with DEVADDR = 0x2A, value 47 and mask 0x01C placed. -/
def ready : State := { State.reset with devaddr := 0x2A, opa := 47, opb := 0x01C }

/-- `ready` with this command just accepted. -/
def started (i : Instr) : State := after (exec i ready)

/-- A started command at position `p`, after `n` attempts. -/
def at_ (i : Instr) (p : Pos) (n : BitVec 8) (log : List BusCall) : State :=
  { started i with
    phase := .run p, k := n, wcnt := 1, busLog := log
    status := { (started i).status with attempts := n } }

/-! ### One step each -/

/-- K4: CRC is accepted and busy. -/
theorem test_crc_accepted : (started .crc).status.busy = true ∧ (started .crc).phase = .exec := by decide
/-- GEN_ZERO is advisory: the filler is returned (C15). -/
theorem test_crc_gen_zero :
    (engineStep default { started .crc with snap := { (started .crc).snap with opb := 0, opc := 0x55 } }).phase =
      .finish .genZero (some ⟨0x55, 0⟩) := by decide
/-- P2: RES0 = 0x5F9, RES1 = 0x102. -/
theorem test_enc_result : (engineStep default (started (.enc 0x02))).phase = .finish .none (some ⟨0x5F9, 0x102⟩) := by
  decide
/-- D2: a flipped check bit is reported with the results. -/
theorem test_dec_mismatch :
    (engineStep default { started .dec with snap := { (started .dec).snap with opa := 0xABCD05F8 } }).phase =
      .finish .checksumMismatch (some ⟨47, 0x010⟩) := by decide
/-- T1: the second byte of a clean response ends the read with the value and the raw word. -/
theorem test_rdreg_done :
    (engineStep (some ⟨true, 2, 0xF9⟩) { at_ (.rdreg 0x02) .readLo 1 [] with hi := 0x05 }).phase =
      .finish .none (some ⟨0x2F, 0x5F9⟩) := by decide
/-- T3: the last bad response gives up, with no wait. -/
theorem test_rdreg_gives_up :
    (engineStep (some ⟨true, 2, 0xF8⟩) { at_ (.rdreg 0x02) .readLo 8 [] with hi := 0x05 }).phase =
      .finish .deviceUnresponsive none := by decide
/-- F1: the field of 0x058 under mask 0x01C is 6. -/
theorem test_rdfld_done :
    (engineStep (some ⟨true, 2, 0x18⟩) { at_ (.rdfld 0x01) .readLo 1 [] with hi := 0x0B }).phase =
      .finish .none (some ⟨6, 0x058⟩) := by decide
/-- F4: a non-contiguous mask is refused at acceptance. -/
theorem test_rdfld_strict :
    (after (exec (.rdfld 0x01) { ready with opb := 0x005 })).status.toWord = 0x00000022 := by decide
/-- P12: with two transactions and header parity the header sent is 0x82 and the codeword goes alone. -/
theorem test_wrreg_bytes :
    txnBytes .header (after (exec (.wrreg 0x02) { ready with cfg := .ofWrite 0x1007 })) = [0x82] ∧
    txnBytes .codeword (after (exec (.wrreg 0x02) { ready with cfg := .ofWrite 0x1007 })) = [0x05, 0xF9] := by decide
/-- P11: after a NACK the next primitive is `BusEnd`. -/
theorem test_wrreg_nack :
    (engineStep (some ⟨false, 0, 0⟩) (at_ (.wrreg 0x02) (.byte .whole 1) 0 [])).phase = .run (.endTxn .whole) := by decide
/-- P3: the value read is 0x058, and 0x044 is to be written back. -/
theorem test_wrfld_merge :
    (engineStep (some ⟨true, 2, 0x18⟩)
      { at_ (.wrfld 0x01) .readLo 1 [] with
        hi := 0x0B, snap := { (started (.wrfld 0x01)).snap with opa := 0x004 } }).newv = 0x044 := by decide
/-- F6: RES0 = 0x044, RES1 = 0x089E0058. -/
theorem test_wrfld_results : wrfldResults (started (.wrfld 0x01)).snap 0x058 0x044 = ⟨0x044, 0x089E0058⟩ := by decide
/-- A1: ABORT while idle does nothing. -/
theorem test_abort_idle : after (exec .abort ready) = ready := by decide
/-- A4: in the retry wait the engine's next step raises ABORTED. -/
theorem test_abort_in_retry_wait :
    (engineStep default (after (exec .abort (at_ (.rdreg 0x02) (.wait .retry) 1 [])))).phase = .finish .aborted none := by
  decide
/-- P9: a CMD write while busy sets OVR and leaves CMD. -/
theorem test_overrun :
    (after (hostStep (portWrite .cmd 3) (started (.rdreg 0x02)))).status.ovr = true ∧
    (after (hostStep (portWrite .cmd 3) (started (.rdreg 0x02)))).cmd = 0x24 := by decide
/-- 11 ticks at TIMING = 10: the wait starts at 11. -/
theorem test_wait_count : (enterWait .postWrite (started (.wrreg 0x02))).wcnt = 11 := by decide

/-- R54: without an answer a `BusRequest` holds the engine, an abort pending or not; with one the abort replaces it. -/
theorem test_request_held :
    engineStep none { at_ (.rdreg 0x02) .request 0 [] with abortPending := true } =
      { at_ (.rdreg 0x02) .request 0 [] with abortPending := true } ∧
    (engineStep (some ⟨true, 2, 0⟩) { at_ (.rdreg 0x02) .request 0 [] with abortPending := true }).phase =
      .finish .aborted none := by decide

/-! ### States that meet the hypotheses of the statements -/

/-- `LegalWordMatchesExactlyOneRow` has a word on each side. -/
theorem witness_legal_words :
    opcodeRows.countP (fun r => r.hits 0x00000016) = 1 ∧ opcodeRows.countP (fun r => r.hits 0x00000011) = 0 := by decide

/-- `DecodedWordIsItsEncoding`. -/
theorem witness_decoded : decodeCmd 0x00000016 = .ok (.rdfld 0x01) ∧ decodeCtrl 0x00000001 = .ok .abort := by decide

/-- `StepRunsDecodedInstruction`: a placed write at each port, a table word, and an empty agenda. -/
theorem witness_placed :
    ({ ready with agenda := [.host (portWrite .cmd 0x24)] } : State).agenda = [.host (portWrite .cmd 0x24)] ∧
    ready.rst = false ∧ decode .cmd 0x24 = .ok (.rdreg 0x02) ∧ decode .ctrl 0x1 = .ok .abort ∧
    decodeTableWord 32 0x24 = some (.rdreg 0x02) ∧ ready.agenda = [] := by decide

/-- `HostAccessRefusedOrPerformed`, `HostAccessesTouchTheirRegister`: an access of each kind, at the window's edges. -/
theorem witness_accesses :
    ({ ready with rst := true } : State).rst = true ∧ ready.rst = false ∧
    (⟨0x3F, 4, .read⟩ : HostAccess).offset.toNat % 4 ≠ 0 ∧ (⟨0x00, 1, .read⟩ : HostAccess).width ≠ 4 ∧
    (⟨0x3C, 4, .read⟩ : HostAccess).offset.toNat % 4 = 0 := by decide

/-- `WindowIsSixtyFourBytesAtBase`: an address just outside the window. -/
theorem witness_outside : Config.baseAddr + 64 ≤ Config.baseAddr + 64 := Nat.le_refl _

/-- `ReservedReadsZeroAndIgnoresWrites`: two words that differ in reserved bits alone, for each register. -/
theorem witness_reserved_bits :
    ready.rst = false ∧ (0xFFFFFFF5 : Word) &&& 0xA = 0 &&& 0xA ∧ (0xFFFFE0E0 : Word) &&& 0x1F1F = 0 &&& 0x1F1F ∧
    (0xFFFFFF80 : Word) &&& 0x7F = 0 &&& 0x7F ∧ (0xFFFFFF00 : Word) &&& 0xFF = 0 &&& 0xFF ∧
    (0xFFFFFFFE : Word) &&& 1 = 0 &&& 1 := by decide

/-- `IllegalWordCompletesAtOnce`: an idle block and a word for each clause (K1, K2, K8, K5). -/
theorem witness_illegal :
    ready.rst = false ∧ ready.status.busy = false ∧ (0x00000000 : Word).extractLsb' 0 4 = 0#4 ∧
    8#4 ≤ (0x00000008 : Word).extractLsb' 0 4 ∧ (0x00000804 : Word).extractLsb' 11 21 ≠ 0#21 ∧
    (0x00000011 : Word).extractLsb' 0 4 = 1#4 ∧ (0x00000011 : Word).extractLsb' 4 7 ≠ 0#7 := by decide

/-- `BusyCmdWriteOnlySetsOvr`. -/
theorem witness_busy :
    (started (.rdreg 0x02)).status.busy = true ∧ (started (.rdreg 0x02)).rst = false ∧ Instr.dec.port = .cmd := by decide

/-- `AcceptanceStartsTheCommand`, and the completion statements of ENC, CRC, DEC and WRREG: an idle block, and for
RDFLD and WRFLD a mask that passes. -/
theorem witness_idle :
    ready.rst = false ∧ ready.status.busy = false ∧ ready.cfg.strictMask = true ∧ maskOk (ready.opb.setWidth 11) = true ∧
    (Instr.rdfld 0x01).op = 6 ∧ (Instr.rdfld 0x01).port = .cmd := by decide

/-- `StrictMaskIsCheckedAtAcceptance`: a mask that fails under strict checking, and the permissive mode. -/
theorem witness_strict :
    ready.status.busy = false ∧ ready.cfg.strictMask = true ∧ maskOk ((0x005 : Word).setWidth 11) = false ∧
    (Cfg.ofWrite 0x1000).strictMask = false := by decide

/-- D2 alone is a list of bad responses. -/
theorem bad_alone : ∀ b ∈ [(0x05F8 : Codeword)], (decodeRead b).ok = false := by
  intro b h
  rw [List.mem_singleton.mp h, test_dec_d2]

/-- `RdregReturnsTheFirstValidResponse`, `RdfldReturnsTheField`, `WrfldMergesAndWritesBack`: one bad response, then a
good one, within the bound (E7). -/
theorem witness_retry :
    ready.rst = false ∧ ready.status.busy = false ∧ [(0x05F8 : Codeword)].length < ready.maxAttempts.toNat ∧
    (∀ b ∈ [(0x05F8 : Codeword)], (decodeRead b).ok = false) ∧ (decodeRead 0x05F9).ok = true ∧
    maskOk (ready.opb.setWidth 11) = true :=
  ⟨by decide, by decide, by decide, bad_alone, by rw [test_dec_d1], by decide⟩

/-- `ReadGivesUpAtTheBound`: two bad responses at a bound of 2 (T3), and one at a bound of 1 (T4). -/
theorem witness_gives_up :
    ready.rst = false ∧ ready.status.busy = false ∧
    [(0x05F8 : Codeword)].length + 1 = ({ ready with maxAttempts := 2 } : State).maxAttempts.toNat ∧
    ([] : List Codeword).length + 1 = ({ ready with maxAttempts := 1 } : State).maxAttempts.toNat ∧
    (∀ b ∈ [(0x05F8 : Codeword)], (decodeRead b).ok = false) ∧ (decodeRead 0x05F8).ok = false ∧
    maskOk (ready.opb.setWidth 11) = true :=
  ⟨by decide, by decide, by decide, by decide, bad_alone, by rw [test_dec_d2], by decide⟩

/-- `TransportFailureIsABusError`: a byte refused, a transaction that ends badly in each way, a short request. -/
theorem witness_transport :
    (at_ (.wrreg 0x02) (.byte .whole 2) 0 []).phase = .run (.byte .whole 2) ∧
    (txnBytes .whole (at_ (.wrreg 0x02) (.byte .whole 2) 0 []))[2]? = some 0xF9 ∧
    (⟨false, 1, 0⟩ : BusReply).ack = false ∧ (⟨false, 1, 0⟩ : BusReply).count.val < 2 ∧
    ({ at_ (.wrreg 0x02) (.endTxn .whole) 0 [] with terr := true } : State).terr = true ∧
    (at_ (.rdreg 0x02) .request 0 []).phase = .run .request ∧ (at_ (.rdreg 0x02) .request 0 []).abortPending = false ∧
    (at_ (.rdreg 0x02) .request 0 []).rst = false := by decide

/-- `SettleWaitLastsOneTickMore`: a settle interval of 10 and one of 0. -/
theorem witness_settle :
    (started (.wrreg 0x02)).rst = false ∧ (started (.wrreg 0x02)).snap.settle ≠ 0 ∧
    (after (exec (.wrreg 0x02) { ready with settleMs := 0 })).snap.settle = 0 := by decide

/-- `AbortRequestsWhileABusCommandRuns`: a bus command, a pure command, and no command. -/
theorem witness_abort_request :
    (started (.wrreg 0x02)).status.busy = true ∧ (started (.wrreg 0x02)).snap.op = 5 ∧
    (started .crc).snap.op = 1 ∧ ready.status.busy = false := by decide

/-- RDREG held in its retry wait with an abort pending. -/
def aborting : State :=
  { at_ (.rdreg 0x02) (.wait .retry) 1
      [.gotByte 0xF8, .gotByte 0x05, .requested 0x2A 2, .ended true, .wrote 0x02 true, .begun 0x2A] with
    abortPending := true }

/-- `AbortIsTakenExactlyAtSafePoints`, `PendingAbortIsInvisibleElsewhere`: a position of each kind. -/
theorem witness_safe_point :
    aborting.rst = false ∧ aborting.phase = .run (.wait .retry) ∧ aborting.abortPending = true ∧
    isSafePoint (.wait .retry) = true ∧ isSafePoint .readHi = false ∧ (started .crc).phase = .exec := by decide

/-- `HoldEndsOnlyByAnswerTickOrReset`: a request with no answer yet, an ABORT written meanwhile; a wait with no abort
pending, and one that is not abortable. -/
theorem witness_hold :
    (at_ (.rdreg 0x02) .request 0 []).status.busy = true ∧ (at_ (.rdreg 0x02) .request 0 []).phase = .run .request ∧
    awaitsAnswer .request = true ∧
    (∃ t, perform (.host (portWrite .ctrl 1)) (at_ (.rdreg 0x02) .request 0 []) = .next t ∧ t.abortPending = true) ∧
    (at_ (.rdreg 0x02) (.wait .retry) 1 []).abortPending = false ∧
    (∃ t, perform (.engine none) (at_ (.rdreg 0x02) (.wait .retry) 1 []) = .next t) ∧
    isSafePoint (.wait .postWrite) = false :=
  ⟨by decide, by decide, rfl, ⟨_, rfl, by decide⟩, by decide, ⟨_, rfl⟩, rfl⟩

/-- `ResultsAndOperandsHaveOneWriter`: a completion that changes RES0, and a host write that changes OPA. -/
theorem witness_writers :
    (after (perform (.engine default) { ready with phase := .finish .none (some ⟨1, 4⟩) })).res0 ≠ ready.res0 ∧
    (after (perform (.host ⟨0x08, 4, .write 1⟩) ready)).opa ≠ ready.opa := by decide

/-- `BusyFallsOnlyAtCompletion`: the completion step of a running command. -/
theorem witness_busy_falls :
    ({ started .crc with phase := .finish .none none } : State).status.busy = true ∧
    (after (perform (.engine default) { started .crc with phase := .finish .none none })).status.busy = false := by decide

/-- `WrittenIsSetOnlyByTheCodewordEnd`: the `BusEnd` of the codeword transaction. -/
theorem witness_written :
    (at_ (.wrreg 0x02) (.endTxn .whole) 0 []).status.written = false ∧
    (at_ (.wrreg 0x02) (.endTxn .whole) 0 []).rst = false ∧ (at_ (.wrreg 0x02) (.endTxn .whole) 0 []).terr = false ∧
    (after (perform okMove (at_ (.wrreg 0x02) (.endTxn .whole) 0 []))).status.written = true := by decide

/-- `OvrIsSticky`: a dropped command sets OVR, a STATUS write clears it. -/
theorem witness_ovr :
    (started .crc).status.ovr = false ∧ (after (perform (.host (portWrite .cmd 3)) (started .crc))).status.ovr = true ∧
    (after (perform (.host ⟨0x04, 4, .write 8⟩) (started .crc).dropCmd)).status.ovr = false := by decide

/-- `ResetOverridesEverything`: `rst` asserted. -/
theorem witness_rst : (State.resetTo ready true).rst = true := by decide

/-- RDREG held in its retry wait after one bad response. -/
def held : State :=
  at_ (.rdreg 0x02) (.wait .retry) 1
    [.gotByte 0xF8, .gotByte 0x05, .requested 0x2A 2, .ended true, .wrote 0x02 true, .begun 0x2A]

/-- `AttemptsCountRequests`, `ProgressingMovesBringTheEndNearer`: RDREG in its retry wait meets the invariant. -/
theorem witness_inv_held : Inv held where
  busy_iff := by decide
  phase_ok := by decide
  pos_legal := by decide
  max_legal := by decide
  snap_legal := by decide
  busy_clears := by decide
  abort_ok := by decide
  wait_ok := by intro _ _; decide
  attempts_le := by decide
  attempts_ok := by intro p h; cases h; decide
  written_ok := by decide
  bus_ok := by decide
  bus_open := by decide
  bus_due := by decide
  rst_idle := by decide

/-- RDREG whose completion with a fatal error is next, and the ENGINE to move. -/
def failing : State := { started (.rdreg 0x02) with phase := .finish .busError none, agenda := [okMove] }

/-- CRC whose completion with an advisory error is next. -/
def advising : State := { started .crc with phase := .finish .genZero (some ⟨1, 0⟩) }

/-- `CompletionIsOneStep`, a fatal error. -/
theorem witness_inv_failing : Inv failing where
  busy_iff := by decide
  phase_ok := by decide
  pos_legal := by decide
  max_legal := by decide
  snap_legal := by decide
  busy_clears := by decide
  abort_ok := by decide
  wait_ok := by intro g h; cases h
  attempts_le := by decide
  attempts_ok := by intro p h; cases h
  written_ok := by decide
  bus_ok := by decide
  bus_open := by decide
  bus_due := by decide
  rst_idle := by decide

/-- `CompletionIsOneStep`, an advisory error. -/
theorem witness_inv_advising : Inv advising where
  busy_iff := by decide
  phase_ok := by decide
  pos_legal := by decide
  max_legal := by decide
  snap_legal := by decide
  busy_clears := by decide
  abort_ok := by decide
  wait_ok := by intro g h; cases h
  attempts_le := by decide
  attempts_ok := by intro p h; cases h
  written_ok := by decide
  bus_ok := by decide
  bus_open := by decide
  bus_due := by decide
  rst_idle := by decide

/-- `CompletionIsOneStep`: both phases, `rst` deasserted. -/
theorem witness_finishing :
    failing.rst = false ∧ failing.phase = .finish .busError none ∧
    advising.rst = false ∧ advising.phase = .finish .genZero (some ⟨1, 0⟩) := by decide

/-- `StepKeepsTheInvariant`, `BusRecordStaysWellFormed`: a state that meets the invariant and whose step answers a next
state. -/
theorem witness_step_keeps : ∃ t, Inv failing ∧ step failing = .next t := ⟨_, witness_inv_failing, rfl⟩

/-- `AttemptsCountRequests`, `ProgressingMovesBringTheEndNearer`: the invariant with BUSY = 1, and a move that gets it on. -/
theorem witness_progress :
    held.status.busy = true ∧ progresses held .tick = true ∧
    failing.status.busy = true ∧ progresses failing okMove = true := by decide

/-- `AbortNeverCutsAWrite`: the invariant with an abort pending. -/
theorem witness_inv_aborting : Inv aborting where
  busy_iff := by decide
  phase_ok := by decide
  pos_legal := by decide
  max_legal := by decide
  snap_legal := by decide
  busy_clears := by decide
  abort_ok := by decide
  wait_ok := by intro _ _; decide
  attempts_le := by decide
  attempts_ok := by intro p h; cases h; decide
  written_ok := by decide
  bus_ok := by decide
  bus_open := by decide
  bus_due := by decide
  rst_idle := by decide

/-- `AbortNeverCutsAWrite`: ABORTED is raised. -/
theorem witness_abort_raised :
    aborting.status.busy = true ∧ (engineStep default aborting).phase = .finish .aborted none ∧
    (∀ e res, aborting.phase ≠ .finish e res) :=
  ⟨by decide, by decide, by intro e res h; cases h⟩

/-- WRREG in the wait between its two transactions, the header sent. -/
def headerSent : State :=
  { after (exec (.wrreg 0x02) { ready with cfg := .ofWrite 0x1003 }) with
    phase := .run (.wait .betweenTxns), wcnt := 11
    busLog := [.ended true, .wrote 0x02 true, .begun 0x2A] }

/-- `AbortNeverCutsAWrite`: a write that has begun, in the wait where nothing is open. -/
theorem witness_inv_header_sent : Inv headerSent where
  busy_iff := by decide
  phase_ok := by decide
  pos_legal := by decide
  max_legal := by decide
  snap_legal := by decide
  busy_clears := by decide
  abort_ok := by decide
  wait_ok := by intro _ _; decide
  attempts_le := by decide
  attempts_ok := by intro p h; cases h; decide
  written_ok := by decide
  bus_ok := by decide
  bus_open := by decide
  bus_due := by decide
  rst_idle := by decide

/-- `AbortNeverCutsAWrite`: that write stays begun at a tick, and a write begins at the `BusBegin` of its first
transaction. -/
theorem witness_write_begun :
    writeBegun headerSent.phase = true ∧ (∃ t, perform .tick headerSent = .next t) ∧
    (started (.wrreg 0x02)).phase = .run (.beginTxn .whole) ∧ Txn.whole ≠ Txn.address ∧
    (engineStep default (started (.wrreg 0x02))).busLog ≠ (started (.wrreg 0x02)).busLog :=
  ⟨by decide, ⟨_, rfl⟩, by decide, by decide, by decide⟩

/-- The checksum statements: a nonzero generator with a filler that fits, one of 32 bits, and a word long enough for a
division step. -/
theorem witness_checksum :
    (0xB : Word) ≠ 0 ∧ (0x2838 : BitVec 64) >>> 3 ≠ 0 ∧ (0x7 : Word).toNat < 2 ^ (bitlen (0xB : Word) - 1) ∧ bitlen (0x80000000 : Word) = 32 ∧
    bitlen (0xB : BitVec 64) ≤ bitlen (0x2838 : BitVec 64) ∧ (0x7 : Word).toNat < 2 ^ 31 := by decide

/-- `SingleFlipsAndShortBurstsAreDetected`: the burst 0b101 at bit 2 of the working word, across message and check. -/
theorem witness_burst :
    (5 : BitVec 3) ≠ 0 ∧ (4 : Word).toNat < 8 ∧ (2 : Word).toNat * 8 + (4 : Word).toNat = (5 : BitVec 3).toNat * 2 ^ 2 := by
  decide

/-- The codec statements: the address out of the check and in it, at both ends of WR_ADDR_POS. -/
theorem witness_codec :
    Cfg.reset.wrAddrInCheck = false ∧ (Cfg.ofWrite 0x1011).wrAddrInCheck = true ∧
    (Cfg.ofWrite 0x1011).wrAddrPos.toNat = 16 ∧ (Cfg.ofWrite 0x1911).wrAddrPos.toNat = 25 := by decide

/-- `WireLayouts`: two responses that differ in bits 4:3 alone (D1, D5). -/
theorem witness_framing_bits : (0x05F9 : Codeword) &&& 0xFFE7 = 0x05E1 &&& 0xFFE7 := by decide

end Sys2Proof.Tests
end

section
/-! SUPPORT. What each agent's move can do, said once: the effect of a host access, and the frame of the steps of a
running command. -/

namespace Sys2Proof.Machine

/-! ### The host's move (20_memory R42 to R46) -/

/-- What a performed host access does, one constructor for each effect. -/
inductive HostEffect (s : State) : HostAccess → State → Prop where
  | read (off : BitVec 6) : HostEffect s ⟨off, 4, .read⟩ { s with readData := regRead off s }
  | dropped (v : Word) (busy : s.status.busy = true) : HostEffect s (portWrite .cmd v) s.dropCmd
  | illegal (v : Word) (idle : s.status.busy = false) :
      HostEffect s (portWrite .cmd v) ((s.beginAccept v).refuseCmd .illegalCmd)
  | accepted (v : Word) (i : Instr) (idle : s.status.busy = false) (decoded : decodeCmd v = .ok i)
      (port : i.port = .cmd) : HostEffect s (portWrite .cmd v) (acceptCmd i s)
  | status (v : Word) : HostEffect s ⟨0x04, 4, .write v⟩ { s with status := s.status.hostWrite v }
  | opa (v : Word) : HostEffect s ⟨0x08, 4, .write v⟩ { s with opa := v }
  | opb (v : Word) : HostEffect s ⟨0x0C, 4, .write v⟩ { s with opb := v }
  | opc (v : Word) : HostEffect s ⟨0x10, 4, .write v⟩ { s with opc := v }
  | cfg (v : Word) : HostEffect s ⟨0x1C, 4, .write v⟩ { s with cfg := .ofWrite v }
  | devaddr (v : Word) : HostEffect s ⟨0x20, 4, .write v⟩ { s with devaddr := v.setWidth 7 }
  | timing (v : Word) : HostEffect s ⟨0x24, 4, .write v⟩ { s with settleMs := v.setWidth 8 }
  | retry (v : Word) : HostEffect s ⟨0x28, 4, .write v⟩ { s with maxAttempts := retryOfWrite v }
  | abort (v : Word) : HostEffect s (portWrite .ctrl v) s.requestAbort
  | ignored (off : BitVec 6) (v : Word) : HostEffect s ⟨off, 4, .write v⟩ s

/-- An offset is the word of its value. -/
theorem offset_eq {off : BitVec 6} {n : Nat} (h : off.toNat = n) : off = BitVec.ofNat 6 n := by
  rw [← h, BitVec.ofNat_toNat, BitVec.setWidth_eq]

/-- CTRL is ABORT by bit 0 alone. -/
theorem writeCtrl_eq (v : Word) (s : State) :
    writeCtrl v s = .next (if v.getLsbD 0 then s.requestAbort else s) := by
  unfold writeCtrl decodeCtrl
  cases v.getLsbD 0 <;> rfl

theorem writeCmd_effect {v : Word} {s t : State} (h : writeCmd v s = .next t) :
    HostEffect s (portWrite .cmd v) t := by
  rcases writeCmd_cases v s with ⟨busy, hw⟩ | ⟨idle, -, hw⟩ | ⟨i, idle, decoded, port, hw⟩ <;>
    obtain rfl : _ = t := Host.Outcome.next.inj (hw.symm.trans h)
  · exact .dropped v busy
  · exact .illegal v idle
  · exact .accepted v i idle decoded port

theorem writeCtrl_effect {v : Word} {s t : State} (h : writeCtrl v s = .next t) :
    HostEffect s (portWrite .ctrl v) t := by
  obtain rfl : _ = t := Host.Outcome.next.inj ((writeCtrl_eq v s).symm.trans h)
  split
  · exact .abort v
  · exact .ignored _ v

/-- A host write has one of the effects. -/
theorem regWrite_effect {off : BitVec 6} {v : Word} {s t : State} (h : regWrite off v s = .next t) :
    HostEffect s ⟨off, 4, .write v⟩ t := by
  unfold regWrite at h
  split at h
  case h_1 o => rw [offset_eq o]; exact writeCmd_effect h
  case h_10 o => rw [offset_eq o]; exact writeCtrl_effect h
  case h_11 => cases h; exact .ignored off v
  case h_2 o => cases h; rw [offset_eq o]; exact .status v
  case h_3 o => cases h; rw [offset_eq o]; exact .opa v
  case h_4 o => cases h; rw [offset_eq o]; exact .opb v
  case h_5 o => cases h; rw [offset_eq o]; exact .opc v
  case h_6 o => cases h; rw [offset_eq o]; exact .cfg v
  case h_7 o => cases h; rw [offset_eq o]; exact .devaddr v
  case h_8 o => cases h; rw [offset_eq o]; exact .timing v
  case h_9 o => cases h; rw [offset_eq o]; exact .retry v

/-- A host access that is performed comes with `rst` deasserted and has one of the effects. -/
theorem hostStep_effect {a : HostAccess} {s t : State} (h : hostStep a s = .next t) :
    s.rst = false ∧ HostEffect s a t := by
  unfold hostStep at h
  split at h
  · cases h
  · split at h
    · cases h
    · next hrst hwf =>
      obtain ⟨off, width, op⟩ := a
      obtain ⟨rfl, -⟩ : width = 4 ∧ off.toNat % 4 = 0 := by
        simpa [HostAccess.wf, HostAccess.wordWide, HostAccess.aligned] using hwf
      refine ⟨by simpa using hrst, ?_⟩
      cases op with
      | read => cases h; exact .read off
      | write v => exact regWrite_effect h

/-- An aligned 32-bit read, `rst` deasserted. -/
theorem hostStep_read {s : State} (off : BitVec 6) (hrst : s.rst = false) (ha : off.toNat % 4 = 0) :
    hostStep ⟨off, 4, .read⟩ s = .next { s with readData := regRead off s } := by
  simp [hostStep, hrst, HostAccess.wf, HostAccess.wordWide, HostAccess.aligned, ha]

/-- An aligned 32-bit write, `rst` deasserted. -/
theorem hostStep_write {s : State} (off : BitVec 6) (v : Word) (hrst : s.rst = false) (ha : off.toNat % 4 = 0) :
    hostStep ⟨off, 4, .write v⟩ s = regWrite off v s := by
  simp [hostStep, hrst, HostAccess.wf, HostAccess.wordWide, HostAccess.aligned, ha]

/-- The write of a word that decodes where it is written runs the instruction. -/
theorem hostStep_decoded {s : State} {p : Port} {v : Word} {i : Instr} (hrst : s.rst = false)
    (hd : decode p v = .ok i) : hostStep (portWrite p v) s = exec i s := by
  cases p with
  | cmd =>
    rw [portWrite, hostStep_write _ _ hrst rfl]
    change writeCmd v s = _
    rw [writeCmd, show decodeCmd v = .ok i from hd]
  | ctrl =>
    rw [portWrite, hostStep_write _ _ hrst rfl]
    change writeCtrl v s = _
    rw [writeCtrl, show decodeCtrl v = .ok i from hd]

/-! ### The steps of a running command (43_register_transfer R98) -/

/-- `t` differs from `s` at most in what the steps of a running command write before its completion: the engine's
working values, WRITTEN, ATTEMPTS, the phase and the record of the bus port. -/
def RunFrame (s t : State) : Prop :=
  t = { s with
    status := { s.status with written := t.status.written, attempts := t.status.attempts }
    phase := t.phase
    k := t.k
    wcnt := t.wcnt
    terr := t.terr
    hi := t.hi
    lo := t.lo
    rvOld := t.rvOld
    newv := t.newv
    busLog := t.busLog }

theorem RunFrame.refl (s : State) : RunFrame s s := rfl

theorem RunFrame.trans {s t u : State} (h : RunFrame s t) (h' : RunFrame t u) : RunFrame s u := by
  unfold RunFrame at *
  rw [h] at h'
  exact h'

namespace RunFrame

variable {s t : State} (h : RunFrame s t)
include h

theorem snap : t.snap = s.snap := (congrArg State.snap h :)
theorem cfg : t.cfg = s.cfg := (congrArg State.cfg h :)
theorem maxAttempts : t.maxAttempts = s.maxAttempts := (congrArg State.maxAttempts h :)
theorem abortPending : t.abortPending = s.abortPending := (congrArg State.abortPending h :)
theorem rst : t.rst = s.rst := (congrArg State.rst h :)
theorem busy : t.status.busy = s.status.busy := (congrArg (·.status.busy) h :)
theorem done : t.status.done = s.status.done := (congrArg (·.status.done) h :)
theorem ovr : t.status.ovr = s.status.ovr := (congrArg (·.status.ovr) h :)
theorem err : t.status.err = s.status.err := (congrArg (·.status.err) h :)
theorem res0 : t.res0 = s.res0 := (congrArg State.res0 h :)
theorem res1 : t.res1 = s.res1 := (congrArg State.res1 h :)
theorem opa : t.opa = s.opa := (congrArg State.opa h :)
theorem opb : t.opb = s.opb := (congrArg State.opb h :)
theorem opc : t.opc = s.opc := (congrArg State.opc h :)

end RunFrame

theorem afterWait_frame (g : Gap) (s : State) : RunFrame s (afterWait g s) := by
  rw [afterWait_eq]; rfl

theorem enterWait_frame (g : Gap) (s : State) : RunFrame s (enterWait g s) := by
  rw [enterWait_eq]; rfl

theorem tickWait_frame (g : Gap) (s : State) : RunFrame s (tickWait g s) := by
  rw [tickWait_eq]; rfl

theorem atSafePoint_frame {s act : State} (h : RunFrame s act) : RunFrame s (atSafePoint s act) := by
  unfold atSafePoint
  split
  · rfl
  · exact h

theorem afterTxn_frame (t : Txn) (s : State) : RunFrame s (afterTxn t s) := by
  cases t
  case address => exact .trans (t := { s with k := 0 }) rfl (enterWait_frame _ _)
  case header => exact enterWait_frame _ _
  case whole => exact .trans (t := { s with status := { s.status with written := true } }) rfl (enterWait_frame _ _)
  case codeword => exact .trans (t := { s with status := { s.status with written := true } }) rfl (enterWait_frame _ _)

theorem readDone_frame (rv : Val11) (w : Codeword) (s : State) : RunFrame s (readDone rv w s) := by
  unfold readDone
  split
  · rfl
  split
  · exact .trans (t := { s with rvOld := rv, newv := wrfldMerged s.snap rv }) rfl (enterWait_frame _ _)
  · rfl

theorem beginStep_frame (t : Txn) (s : State) : RunFrame s (beginStep t s) := by
  unfold beginStep
  split
  · exact atSafePoint_frame rfl
  · rfl

/-- The `BusWrite` step of a byte the transaction has. -/
theorem byteStep_eq {t : Txn} {i : Nat} {s : State} {b : Byte} (r : BusReply) (h : (txnBytes t s)[i]? = some b) :
    byteStep t i r s =
      if r.ack then
        if i + 1 < (txnBytes t s).length then (s.logBus (.wrote b r.ack)).goto (.run (.byte t (i + 1)))
        else (s.logBus (.wrote b r.ack)).goto (.run (.endTxn t))
      else { s.logBus (.wrote b r.ack) with terr := true, phase := .run (.endTxn t) } := by
  simp only [byteStep, h]
  rfl

theorem byteStep_frame (t : Txn) (i : Nat) (r : BusReply) (s : State) : RunFrame s (byteStep t i r s) := by
  cases h : (txnBytes t s)[i]? with
  | none => simp only [byteStep, h]; rfl
  | some b =>
    rw [byteStep_eq r h]
    split
    · split <;> rfl
    · rfl

/-- The `BusEnd` step, past the record of its primitive. -/
theorem endStep_eq (t : Txn) (r : BusReply) (s : State) :
    endStep t r s =
      if s.terr || !r.ack then (s.logBus (.ended r.ack)).raise .busError else afterTxn t (s.logBus (.ended r.ack)) :=
  rfl

theorem endStep_frame (t : Txn) (r : BusReply) (s : State) : RunFrame s (endStep t r s) := by
  rw [endStep_eq]
  split
  · rfl
  · exact .trans (t := s.logBus (.ended r.ack)) rfl (afterTxn_frame _ _)

theorem waitStep_frame (g : Gap) (s : State) : RunFrame s (waitStep g s) := by
  unfold waitStep
  split
  · exact atSafePoint_frame rfl
  · rfl

theorem requestStep_frame (r : BusReply) (s : State) : RunFrame s (requestStep r s) := by
  apply atSafePoint_frame
  split <;> rfl

/-- The second byte of a response is taken. -/
def State.takeLo (s : State) (b : Byte) : State := { s.logBus (.gotByte b) with lo := b }

/-- The response the two bytes make, high byte first (20_memory R53). -/
def State.response (s : State) (b : Byte) : Codeword := (s.hi ++ b).setWidth 16

/-- The second `BusRead` step: a valid response ends the read phase, an invalid one the command or the attempt. -/
theorem readLoStep_eq (r : BusReply) (s : State) :
    readLoStep r s =
      if (decodeRead (s.response r.byte)).ok then
        readDone (decodeRead (s.response r.byte)).rv (s.response r.byte) (s.takeLo r.byte)
      else if s.snap.max ≤ s.k then (s.takeLo r.byte).raise .deviceUnresponsive
      else enterWait .retry (s.takeLo r.byte) := rfl

theorem readLoStep_frame (r : BusReply) (s : State) : RunFrame s (readLoStep r s) := by
  rw [readLoStep_eq]
  refine .trans (t := s.takeLo r.byte) rfl ?_
  split
  · exact readDone_frame _ _ _
  split
  · rfl
  · exact enterWait_frame _ _

theorem onAnswer_frame {act : BusReply → State → State} (r : Option BusReply) {s : State}
    (h : ∀ a, RunFrame s (act a s)) : RunFrame s (onAnswer r act s) := by
  cases r with
  | none => rfl
  | some a => exact h a

/-- The step of a bus command inside RUN stays in the frame. -/
theorem busStep_frame (p : Pos) (r : Option BusReply) (s : State) : RunFrame s (busStep p r s) := by
  cases p with
  | beginTxn t => exact beginStep_frame t s
  | byte t i => exact onAnswer_frame r fun a => byteStep_frame t i a s
  | endTxn t => exact onAnswer_frame r fun a => endStep_frame t a s
  | wait g => exact waitStep_frame g s
  | request => exact onAnswer_frame r fun a => requestStep_frame a s
  | readHi => exact onAnswer_frame r fun _ => rfl
  | readLo => exact onAnswer_frame r fun a => readLoStep_frame a s

/-- The EXEC step of a pure command stays in the frame. -/
theorem pureStep_frame (s : State) : RunFrame s (pureStep s) := by
  unfold pureStep
  split
  · rfl
  split
  · rfl
  split <;> rfl

/-- A tick stays in the frame. -/
theorem tickStep_frame (s : State) : RunFrame s (tickStep s) := by
  unfold tickStep
  split
  · rfl
  split
  · exact tickWait_frame _ _
  · rfl

/-- An engine step stays in the frame, or it is the completion step. -/
theorem engineStep_cases (r : Option BusReply) (s : State) :
    RunFrame s (engineStep r s) ∨
      ∃ e res, s.phase = .finish e res ∧ s.rst = false ∧ engineStep r s = s.complete e res := by
  cases hrst : s.rst with
  | true => rw [engineStep_rst r hrst]; exact .inl rfl
  | false =>
    rw [engineStep_eq r hrst]
    cases hp : s.phase with
    | idle => exact .inl rfl
    | exec => exact .inl (pureStep_frame s)
    | run p => exact .inl (busStep_frame p r s)
    | finish e res => exact .inr ⟨e, res, rfl, rfl, rfl⟩

end Sys2Proof.Machine
end

section
/-! SUPPORT. The invariant, part by part: what holds of a running command wherever it stands, what holds at one position,
and how each step of the command passes them on. -/

namespace Sys2Proof.Safety

open Sys2Proof.Machine

variable {s t : State}

/-! ### Opcodes and positions -/

theorem isBusOp_of_hasReadPhase {op : BitVec 4} (h : hasReadPhase op = true) : isBusOp op = true := by
  simp only [hasReadPhase, isBusOp, Bool.or_eq_true] at *
  tauto

theorem isBusOp_of_hasWritePhase {op : BitVec 4} (h : hasWritePhase op = true) : isBusOp op = true := by
  simp only [hasWritePhase, isBusOp, Bool.or_eq_true] at *
  tauto

theorem txnOk_isBusOp {l : Snapshot} {x : Txn} (h : txnOk l x = true) : isBusOp l.op = true := by
  cases x with
  | address => exact isBusOp_of_hasReadPhase h
  | whole => exact isBusOp_of_hasWritePhase (Bool.and_eq_true_iff.mp h).1
  | header => exact isBusOp_of_hasWritePhase (Bool.and_eq_true_iff.mp h).1
  | codeword => exact isBusOp_of_hasWritePhase (Bool.and_eq_true_iff.mp h).1

theorem gapOk_isBusOp {l : Snapshot} {g : Gap} (h : gapOk l g = true) : isBusOp l.op = true := by
  cases g with
  | afterAddress => exact isBusOp_of_hasReadPhase h
  | retry => exact isBusOp_of_hasReadPhase h
  | beforeWrite => exact isBusOp_of_hasWritePhase (Bool.or_eq_true_iff.mpr (.inr h))
  | betweenTxns => exact isBusOp_of_hasWritePhase (Bool.and_eq_true_iff.mp h).1
  | postWrite => exact isBusOp_of_hasWritePhase h

/-- Every position inside RUN is one of a bus command. -/
theorem posOk_isBusOp {l : Snapshot} {q : Pos} (h : posOk l q = true) : isBusOp l.op = true := by
  cases q with
  | beginTxn x => exact txnOk_isBusOp h
  | byte x i => exact txnOk_isBusOp (Bool.and_eq_true_iff.mp h).1
  | endTxn x => exact txnOk_isBusOp h
  | wait g => exact gapOk_isBusOp h
  | request => exact isBusOp_of_hasReadPhase h
  | readHi => exact isBusOp_of_hasReadPhase h
  | readLo => exact isBusOp_of_hasReadPhase h

@[simp] theorem txnBytes_length (x : Txn) (s : State) : (txnBytes x s).length = txnLength x := by
  cases x <;> rfl

/-- A write phase starts with a transaction of the shape CFG picks. -/
theorem txnOk_firstWriteTxn {l : Snapshot} (h : hasWritePhase l.op = true) :
    txnOk l (firstWriteTxn l.cfg) = true := by
  unfold firstWriteTxn
  split <;> simp_all [txnOk]

/-- The attempts of a position are counted by ATTEMPTS, `k` and the bound alone. -/
theorem attemptsOk_congr (hatt : t.status.attempts = s.status.attempts) (hk : t.k = s.k)
    (hmax : t.snap.max = s.snap.max) (q : Pos) : attemptsOk t q = attemptsOk s q := by
  unfold attemptsOk
  rw [hatt, hk, hmax]

/-! ### The two parts of the invariant -/

/-- What the invariant says of a running command wherever it stands. -/
structure Running (s : State) : Prop where
  busy : s.status.busy = true
  rst : s.rst = false
  pos_legal : wrAddrPosMin ≤ s.cfg.wrAddrPos ∧ s.cfg.wrAddrPos ≤ wrAddrPosMax
  max_legal : s.maxAttempts ≠ 0
  snap_legal : wrAddrPosMin ≤ s.snap.cfg.wrAddrPos ∧ s.snap.cfg.wrAddrPos ≤ wrAddrPosMax ∧ s.snap.max ≠ 0
  clear : s.status.done = false ∧ s.status.err = .none
  abort_ok : s.abortPending = true → isBusOp s.snap.op = true
  attempts_le : s.status.attempts ≤ s.snap.max
  bus_ok : busOk s.busLog = true

/-- What the invariant says at a position inside RUN, but for the ticks left of a wait. -/
structure StandsAt (s : State) (q : Pos) : Prop where
  pos_ok : posOk s.snap q = true
  attempts_ok : attemptsOk s q = true
  written_ok : s.status.written = true → mayBeWritten (.run q) = true
  bus_open : txnOpen s.busLog = openAt (.run q)
  bus_due : dueAt s.busLog (.run q) = true


/-- What is said at a position rests on the snapshot, STATUS, `k` and the record alone. -/
theorem StandsAt.congr {q : Pos} (h : StandsAt s q) (snap : t.snap = s.snap) (status : t.status = s.status)
    (k : t.k = s.k) (log : t.busLog = s.busLog) : StandsAt t q where
  pos_ok := by rw [snap]; exact h.pos_ok
  attempts_ok := by
    rw [attemptsOk_congr (congrArg Status.attempts status) k (congrArg Snapshot.max snap)]
    exact h.attempts_ok
  written_ok := by rw [status]; exact h.written_ok
  bus_open := by rw [log]; exact h.bus_open
  bus_due := by rw [log]; exact h.bus_due

/-- Where WRITTEN may not stand, it reads 0. -/
theorem StandsAt.unwritten {q : Pos} (h : StandsAt s q) (hq : mayBeWritten (.run q) = false) :
    s.status.written = false :=
  Bool.eq_false_iff.mpr fun hw => absurd (h.written_ok hw) (by simp [hq])

/-- A running command meets the first part. -/
theorem Inv.running (h : Inv s) (hp : s.phase ≠ .idle) : Running s :=
  have busy := h.busy_iff.mpr hp
  { busy := busy
    rst := Bool.eq_false_iff.mpr fun hr => hp (h.rst_idle hr)
    pos_legal := h.pos_legal
    max_legal := h.max_legal
    snap_legal := h.snap_legal busy
    clear := h.busy_clears busy
    abort_ok := fun ha => (h.abort_ok ha).2
    attempts_le := h.attempts_le busy
    bus_ok := h.bus_ok }

/-- A command inside RUN meets the second part. -/
theorem Inv.standsAt {q : Pos} (h : Inv s) (hp : s.phase = .run q) : StandsAt s q where
  pos_ok := by simpa only [hp, phaseOk] using h.phase_ok
  attempts_ok := h.attempts_ok q hp
  written_ok hw := hp ▸ (h.written_ok hw).1
  bus_open := hp ▸ h.bus_open
  bus_due := hp ▸ h.bus_due

namespace Running

/-- The invariant of a running command, from the clauses that speak of its phase. -/
theorem inv (h : Running s) (idle : s.phase ≠ .idle) (phase : phaseOk s.snap s.phase = true)
    (wait : ∀ g, s.phase = .run (.wait g) → 1 ≤ s.wcnt.toNat ∧ s.wcnt.toNat ≤ s.snap.settle.toNat + 1)
    (attempts : ∀ q, s.phase = .run q → attemptsOk s q = true)
    (written : s.status.written = true → mayBeWritten s.phase = true)
    (opened : txnOpen s.busLog = openAt s.phase) (due : dueAt s.busLog s.phase = true) : Inv s where
  busy_iff := ⟨fun _ => idle, fun _ => h.busy⟩
  phase_ok := phase
  pos_legal := h.pos_legal
  max_legal := h.max_legal
  snap_legal _ := h.snap_legal
  busy_clears _ := h.clear
  abort_ok ha := ⟨h.busy, h.abort_ok ha⟩
  wait_ok := wait
  attempts_le _ := h.attempts_le
  attempts_ok := attempts
  written_ok hw := ⟨written hw, h.clear.2⟩
  bus_ok := h.bus_ok
  bus_open := opened
  bus_due := due
  rst_idle hr := absurd hr (by simp [h.rst])

/-- The invariant at a position inside RUN. -/
theorem inv_run {q : Pos} (h : Running s) (hp : s.phase = .run q) (hq : StandsAt s q)
    (wait : ∀ g, q = .wait g → 1 ≤ s.wcnt.toNat ∧ s.wcnt.toNat ≤ s.snap.settle.toNat + 1) : Inv s := by
  refine h.inv ?_ ?_ ?_ ?_ ?_ ?_ ?_ <;> rw [hp]
  · simp
  · exact hq.pos_ok
  · rintro g ⟨⟩; exact wait g rfl
  · rintro _ ⟨⟩; exact hq.attempts_ok
  · exact hq.written_ok
  · exact hq.bus_open
  · exact hq.bus_due

/-- The invariant before the completion step. -/
theorem inv_finish {e : ErrCode} {res : Option Results} (h : Running s) (hp : s.phase = .finish e res)
    (hop : isPureOp s.snap.op = true ∨ isBusOp s.snap.op = true) (hres : res.isNone = e.fatal)
    (hopen : txnOpen s.busLog = false) (hw : s.status.written = true → e = .none) : Inv s := by
  refine h.inv ?_ ?_ ?_ ?_ ?_ ?_ ?_ <;> rw [hp]
  · simp
  · simp [phaseOk, hop, hres]
  · simp
  · simp
  · intro h; rw [hw h]; rfl
  · exact hopen
  · rfl

/-- A step inside the frame leaves the command running. -/
theorem frame (h : Running s) (f : RunFrame s t) (hatt : t.status.attempts ≤ s.snap.max)
    (hbus : busOk t.busLog = true) : Running t where
  busy := f.busy ▸ h.busy
  rst := f.rst ▸ h.rst
  pos_legal := f.cfg ▸ h.pos_legal
  max_legal := f.maxAttempts ▸ h.max_legal
  snap_legal := f.snap ▸ h.snap_legal
  clear := f.done ▸ f.err ▸ h.clear
  abort_ok := f.snap ▸ f.abortPending ▸ h.abort_ok
  attempts_le := f.snap ▸ hatt
  bus_ok := hbus

/-- A step inside the frame that ends at a position inside RUN. -/
theorem inv_run_of_frame {q : Pos} (h : Running s) (f : RunFrame s t) (hp : t.phase = .run q) (hq : StandsAt t q)
    (hatt : t.status.attempts ≤ s.snap.max) (hbus : busOk t.busLog = true)
    (wait : ∀ g, q = .wait g → 1 ≤ t.wcnt.toNat ∧ t.wcnt.toNat ≤ t.snap.settle.toNat + 1) : Inv t :=
  (h.frame f hatt hbus).inv_run hp hq wait

/-- A fatal error of a bus command (60_exceptions R118). -/
theorem inv_raise {e : ErrCode} (h : Running s) (hop : isBusOp s.snap.op = true) (he : e.fatal = true)
    (hopen : txnOpen s.busLog = false) (hw : s.status.written = false) : Inv (s.raise e) :=
  (h.frame (t := s.raise e) rfl h.attempts_le h.bus_ok).inv_finish rfl (.inr hop) he.symm hopen
    (by simp [hw])

/-- A normal end or an advisory error (60_exceptions R118). -/
theorem inv_finishWith {e : ErrCode} {res : Results} (h : Running s)
    (hop : isPureOp s.snap.op = true ∨ isBusOp s.snap.op = true) (he : e.fatal = false)
    (hopen : txnOpen s.busLog = false) (hw : s.status.written = true → e = .none) : Inv (s.finishWith e res) :=
  (h.frame (t := s.finishWith e res) rfl h.attempts_le h.bus_ok).inv_finish rfl hop he.symm hopen hw

/-- The engine moves to a position that is no wait. -/
theorem inv_goto {q : Pos} (h : Running s) (hq : StandsAt s q) (hg : ∀ g, q ≠ .wait g) : Inv (s.goto (.run q)) :=
  h.inv_run_of_frame rfl rfl (hq.congr rfl rfl rfl rfl) h.attempts_le h.bus_ok fun g h => absurd h (hg g)

end Running
end Sys2Proof.Safety
end

section
/-! SUPPORT. Each step of a running command keeps the invariant. -/

namespace Sys2Proof.Safety

open Sys2Proof.Machine

variable {s t : State}

/-- WRITTEN does not stand in an abortable wait. -/
theorem mayBeWritten_of_abortable {g : Gap} (h : g.abortable = true) : mayBeWritten (.run (.wait g)) = false := by
  cases g <;> simp_all [Gap.abortable, mayBeWritten]

/-- Only a completion without an error may find WRITTEN set. -/
theorem eq_none_of_mayBeWritten {e : ErrCode} {res : Option Results} (h : mayBeWritten (.finish e res) = true) :
    e = .none := by
  cases e <;> simp_all [mayBeWritten]

/-- The attempts made and still allowed, where a request may follow. -/
theorem attempts_below_iff :
    (s.status.attempts == s.k && decide (s.k < s.snap.max)) = true ↔ s.status.attempts = s.k ∧ s.k < s.snap.max := by
  simp

/-- An attempt below the bound is counted without saturating, and the count stays within the bound. -/
theorem satSucc_of_lt {k m : BitVec 8} (h : k < m) : satSucc k ≤ m ∧ 0 < satSucc k := by
  have hk : k ≠ 255 := by bv_omega
  rw [satSucc, if_neg hk]
  constructor <;> bv_omega

namespace Running

/-- What follows a wait. -/
theorem inv_afterWait {g : Gap} (h : Running s) (hq : StandsAt s (.wait g)) : Inv (afterWait g s) := by
  cases g with
  | afterAddress => exact h.inv_goto ⟨hq.pos_ok, hq.attempts_ok, hq.written_ok, hq.bus_open, rfl⟩ (by simp)
  | retry => exact h.inv_goto ⟨hq.pos_ok, hq.attempts_ok, hq.written_ok, hq.bus_open, rfl⟩ (by simp)
  | beforeWrite =>
    have hop : hasWritePhase s.snap.op = true := Bool.or_eq_true_iff.mpr (.inr hq.pos_ok)
    refine h.inv_goto ⟨txnOk_firstWriteTxn hop, ?_, hq.written_ok, hq.bus_open, rfl⟩ (by simp)
    unfold firstWriteTxn
    split <;> rfl
  | betweenTxns => exact h.inv_goto ⟨hq.pos_ok, rfl, hq.written_ok, hq.bus_open, rfl⟩ (by simp)
  | postWrite =>
    exact h.inv_finishWith (.inr (isBusOp_of_hasWritePhase hq.pos_ok)) rfl hq.bus_open fun _ => rfl

/-- Entering a wait, or skipping it. -/
theorem inv_enterWait {g : Gap} (h : Running s) (hq : StandsAt s (.wait g)) : Inv (enterWait g s) := by
  rcases enterWait_cases g s with ⟨-, heq⟩ | ⟨-, heq⟩ <;> rw [heq]
  · exact h.inv_afterWait hq
  · refine h.inv_run_of_frame rfl rfl (hq.congr rfl rfl rfl rfl) h.attempts_le h.bus_ok fun _ _ => ?_
    dsimp only
    bv_omega

/-- A tick of a wait. -/
theorem inv_tickWait {g : Gap} (h : Running s) (hp : s.phase = .run (.wait g)) (hq : StandsAt s (.wait g))
    (wait : 1 ≤ s.wcnt.toNat ∧ s.wcnt.toNat ≤ s.snap.settle.toNat + 1) : Inv (tickWait g s) := by
  unfold tickWait
  split
  · exact (h.frame (t := { s with wcnt := 0 }) rfl h.attempts_le h.bus_ok).inv_afterWait
      (hq.congr rfl rfl rfl rfl)
  · next hw =>
    refine h.inv_run_of_frame rfl hp (hq.congr rfl rfl rfl rfl) h.attempts_le h.bus_ok fun _ _ => ?_
    dsimp only
    bv_omega

/-- A held wait, with its safe point. -/
theorem inv_waitStep {g : Gap} (h : Running s) (hq : StandsAt s (.wait g)) (hs : Inv s) : Inv (waitStep g s) := by
  unfold waitStep
  split
  · next hg =>
    unfold atSafePoint
    split
    · exact h.inv_raise (gapOk_isBusOp hq.pos_ok) rfl hq.bus_open
        (hq.unwritten (mayBeWritten_of_abortable hg))
    · exact hs
  · exact hs

/-- A `BusBegin` step. -/
theorem inv_beginStep {x : Txn} (h : Running s) (hq : StandsAt s (.beginTxn x)) : Inv (beginStep x s) := by
  have hopen : txnOpen s.busLog = false := hq.bus_open
  have hact : Inv { s.logBus (.begun s.snap.dev) with terr := false, phase := .run (.byte x 0) } := by
    refine h.inv_run_of_frame rfl rfl ⟨?_, by cases x <;> exact hq.attempts_ok, hq.written_ok, rfl, rfl⟩
      h.attempts_le (by simp [busOk, hopen, h.bus_ok]) (by simp)
    exact Bool.and_eq_true_iff.mpr ⟨hq.pos_ok, by cases x <;> rfl⟩
  unfold beginStep atSafePoint
  split
  · split
    · exact h.inv_raise (posOk_isBusOp hq.pos_ok) rfl hopen (hq.unwritten rfl)
    · exact hact
  · exact hact

/-- A `BusWrite` step. -/
theorem inv_byteStep {x : Txn} {i : Nat} (r : BusReply) (h : Running s) (hq : StandsAt s (.byte x i)) :
    Inv (byteStep x i r s) := by
  obtain ⟨hx, hi⟩ := Bool.and_eq_true_iff.mp hq.pos_ok
  have hi : i < (txnBytes x s).length := by simpa using hi
  have hopen : txnOpen s.busLog = true := hq.bus_open
  rw [byteStep_eq r (List.getElem?_eq_getElem hi)]
  generalize (txnBytes x s)[i] = b
  have hlog : Running (s.logBus (.wrote b r.ack)) :=
    h.frame rfl h.attempts_le (by simp [busOk, hopen, h.bus_ok])
  have hend : StandsAt (s.logBus (.wrote b r.ack)) (.endTxn x) :=
    ⟨hx, by cases x <;> exact hq.attempts_ok, hq.written_ok, hopen, rfl⟩
  split
  · split
    · next hlt =>
      exact hlog.inv_goto ⟨by simpa [posOk] using ⟨hx, by simpa using hlt⟩, by cases x <;> exact hq.attempts_ok,
        hq.written_ok, hopen, rfl⟩ (by simp)
    · exact hlog.inv_goto hend (by simp)
  · exact hlog.inv_run_of_frame rfl rfl (hend.congr rfl rfl rfl rfl) hlog.attempts_le hlog.bus_ok (by simp)

/-- What follows a transaction that raised nothing, its `BusEnd` recorded. -/
theorem inv_afterTxn {x : Txn} (h : Running s) (hpos : txnOk s.snap x = true)
    (hatt : attemptsOk s (.endTxn x) = true) (hw : s.status.written = false) (hopen : txnOpen s.busLog = false) :
    Inv (afterTxn x s) := by
  have hwrite : hasWritePhase s.snap.op = true →
      Inv (enterWait .postWrite { s with status := { s.status with written := true } }) := fun hop =>
    (h.frame (t := { s with status := { s.status with written := true } }) rfl h.attempts_le h.bus_ok).inv_enterWait
      ⟨hop, rfl, fun _ => rfl, hopen, rfl⟩
  cases x with
  | address =>
    have h0 : s.status.attempts = 0 := by simpa [attemptsOk] using hatt
    obtain ⟨-, -, hmax⟩ := h.snap_legal
    have hbound : 0 < s.snap.max := by bv_omega
    exact (h.frame (t := { s with k := 0 }) rfl h.attempts_le h.bus_ok).inv_enterWait
      ⟨hpos, attempts_below_iff.mpr ⟨h0, hbound⟩, by simp [hw], hopen, rfl⟩
  | header => exact h.inv_enterWait ⟨hpos, rfl, by simp [hw], hopen, rfl⟩
  | whole => exact hwrite (Bool.and_eq_true_iff.mp hpos).1
  | codeword => exact hwrite (Bool.and_eq_true_iff.mp hpos).1

/-- A `BusEnd` step. -/
theorem inv_endStep {x : Txn} (r : BusReply) (h : Running s) (hq : StandsAt s (.endTxn x)) :
    Inv (endStep x r s) := by
  have hopen : txnOpen s.busLog = true := hq.bus_open
  have hlog : Running (s.logBus (.ended r.ack)) := h.frame rfl h.attempts_le (by simp [busOk, hopen, h.bus_ok])
  rw [endStep_eq]
  split
  · exact hlog.inv_raise (txnOk_isBusOp hq.pos_ok) rfl rfl (hq.unwritten rfl)
  · exact hlog.inv_afterTxn hq.pos_ok (by cases x <;> exact hq.attempts_ok) (hq.unwritten rfl) rfl

/-- The `BusRequest` step. -/
theorem inv_requestStep (r : BusReply) (h : Running s) (hq : StandsAt s .request) : Inv (requestStep r s) := by
  have hopen : txnOpen s.busLog = false := hq.bus_open
  have hw : s.status.written = false := hq.unwritten rfl
  have hop : isBusOp s.snap.op = true := posOk_isBusOp hq.pos_ok
  obtain ⟨-, hk⟩ := attempts_below_iff.mp hq.attempts_ok
  obtain ⟨hmax, hpos⟩ := satSucc_of_lt hk
  have hasked : Running { s.logBus (.requested s.snap.dev r.count) with
      k := satSucc s.k, status := { s.status with attempts := satSucc s.k } } :=
    h.frame rfl hmax (by simp [busOk, hopen, h.bus_ok])
  unfold requestStep atSafePoint
  split
  · exact h.inv_raise hop rfl hopen hw
  · split
    · exact hasked.inv_raise hop rfl hopen hw
    · next hcount =>
      refine hasked.inv_goto ⟨hq.pos_ok, by simpa [attemptsOk] using hpos, hq.written_ok, hopen, ?_⟩ (by simp)
      have : r.count.val = 2 := by unfold readCount at hcount; omega
      simpa [dueAt, bytesDue] using this

/-- The first `BusRead` step. -/
theorem inv_readHiStep (r : BusReply) (h : Running s) (hq : StandsAt s .readHi) : Inv (readHiStep r s) := by
  have hopen : txnOpen s.busLog = false := hq.bus_open
  have hdue : bytesDue s.busLog = 2 := by simpa [dueAt] using hq.bus_due
  exact h.inv_run_of_frame rfl rfl
    ⟨hq.pos_ok, hq.attempts_ok, hq.written_ok, hopen, by simp [readHiStep, dueAt, bytesDue, hdue]⟩
    h.attempts_le (by simp [readHiStep, busOk, hdue, hopen, h.bus_ok]) (by simp)

/-- What follows a valid response. -/
theorem inv_readDone (rv : Val11) (w : Codeword) (h : Running s) (hop : hasReadPhase s.snap.op = true)
    (hopen : txnOpen s.busLog = false) (hw : s.status.written = false) : Inv (readDone rv w s) := by
  have hbus : isPureOp s.snap.op = true ∨ isBusOp s.snap.op = true := .inr (isBusOp_of_hasReadPhase hop)
  unfold readDone
  split
  · exact h.inv_finishWith hbus rfl hopen fun _ => rfl
  split
  · next hwr =>
    exact (h.frame (t := { s with rvOld := rv, newv := wrfldMerged s.snap rv }) rfl h.attempts_le
      h.bus_ok).inv_enterWait ⟨by simpa [posOk, gapOk] using hwr, rfl, by simp [hw], hopen, rfl⟩
  · exact h.inv_finishWith hbus rfl hopen fun _ => rfl

/-- The second `BusRead` step. -/
theorem inv_readLoStep (r : BusReply) (h : Running s) (hq : StandsAt s .readLo) : Inv (readLoStep r s) := by
  have hopen : txnOpen s.busLog = false := hq.bus_open
  have hw : s.status.written = false := hq.unwritten rfl
  have hdue : bytesDue s.busLog = 1 := by simpa [dueAt] using hq.bus_due
  have htaken : Running (s.takeLo r.byte) :=
    h.frame rfl h.attempts_le (by simp [State.takeLo, busOk, hdue, hopen, h.bus_ok])
  rw [readLoStep_eq]
  split
  · exact htaken.inv_readDone _ _ hq.pos_ok hopen hw
  split
  · exact htaken.inv_raise (posOk_isBusOp hq.pos_ok) rfl hopen hw
  · next hk =>
    refine htaken.inv_enterWait ⟨hq.pos_ok, ?_, hq.written_ok, hopen, rfl⟩
    have hatt : s.status.attempts = s.k ∧ 0 < s.k := by simpa [attemptsOk] using hq.attempts_ok
    exact attempts_below_iff.mpr ⟨hatt.1, BitVec.not_le.mp hk⟩

end Running

theorem Inv.onAnswer {act : BusReply → State → State} (h : Inv s) (r : Option BusReply)
    (hact : ∀ a, Inv (act a s)) : Inv (onAnswer r act s) := by
  cases r with
  | none => exact h
  | some a => exact hact a

/-- An engine step inside RUN keeps the invariant. -/
theorem Inv.busStep {q : Pos} (h : Inv s) (hp : s.phase = .run q) (r : Option BusReply) :
    Inv (busStep q r s) := by
  have run : Running s := h.running (by simp [hp])
  have here : StandsAt s q := h.standsAt hp
  cases q with
  | beginTxn x => exact run.inv_beginStep here
  | byte x i => exact h.onAnswer r fun a => run.inv_byteStep a here
  | endTxn x => exact h.onAnswer r fun a => run.inv_endStep a here
  | wait g => exact run.inv_waitStep here h
  | request => exact h.onAnswer r fun a => run.inv_requestStep a here
  | readHi => exact h.onAnswer r fun a => run.inv_readHiStep a here
  | readLo => exact h.onAnswer r fun a => run.inv_readLoStep a here

/-- The EXEC step of a pure command keeps the invariant. -/
theorem Inv.pureStep (h : Inv s) (hp : s.phase = .exec) : Inv (pureStep s) := by
  have run : Running s := h.running (by simp [hp])
  have hop : isPureOp s.snap.op = true := by simpa [hp, phaseOk] using h.phase_ok
  have hopen : txnOpen s.busLog = false := by simpa [hp, openAt] using h.bus_open
  have hw : s.status.written = false :=
    Bool.eq_false_iff.mpr fun hw => by simpa [hp, mayBeWritten] using (h.written_ok hw).1
  have ends (e : ErrCode) (res : Results) (he : e.fatal = false) : Inv (s.finishWith e res) :=
    run.inv_finishWith (.inl hop) he hopen (by simp [hw])
  unfold Machine.pureStep
  split
  · exact ends _ _ (by unfold crcError; split <;> rfl)
  split
  · exact ends _ _ rfl
  split
  · exact ends _ _ (by split <;> rfl)
  · exact h

/-- The completion step keeps the invariant. -/
theorem Inv.complete {e : ErrCode} {res : Option Results} (h : Inv s) (hp : s.phase = .finish e res) :
    Inv (s.complete e res) where
  busy_iff := by simp
  phase_ok := rfl
  pos_legal := h.pos_legal
  max_legal := h.max_legal
  snap_legal := by simp
  busy_clears := by simp
  abort_ok := by simp
  wait_ok := by simp
  attempts_le := by simp
  attempts_ok := by simp
  written_ok hw := by
    have hmay : mayBeWritten (.finish e res) = true := hp ▸ (h.written_ok hw).1
    exact ⟨rfl, eq_none_of_mayBeWritten hmay⟩
  bus_ok := h.bus_ok
  bus_open := by simpa [hp, openAt] using h.bus_open
  bus_due := rfl
  rst_idle _ := rfl

/-- Every engine step keeps the invariant. -/
theorem Inv.engineStep (h : Inv s) (r : Option BusReply) : Inv (engineStep r s) := by
  cases hrst : s.rst with
  | true => rw [engineStep_rst r hrst]; exact h
  | false =>
    rw [engineStep_eq r hrst]
    cases hp : s.phase with
    | idle => exact h
    | exec => exact h.pureStep hp
    | run q => exact h.busStep hp r
    | finish e res => exact h.complete hp

/-- Every tick keeps the invariant. -/
theorem Inv.tickStep (h : Inv s) : Inv (tickStep s) := by
  unfold Machine.tickStep
  split
  · exact h
  split
  · next g hp => exact (h.running (by simp [hp])).inv_tickWait hp (h.standsAt hp) (h.wait_ok g hp)
  · exact h

/-- The reset values meet the invariant, with any record that is well formed and closed. -/
theorem inv_reset (level : Bool) (agenda : List Event) (draws : Nat) (readData : Word) {log : List BusCall}
    (hok : busOk log = true) (hopen : txnOpen log = false) :
    Inv { State.reset with
      rst := level, agenda := agenda, draws := draws, readData := readData, busLog := log } where
  busy_iff := by simp [State.reset, Status.reset]
  phase_ok := rfl
  pos_legal := (by decide : wrAddrPosMin ≤ State.reset.cfg.wrAddrPos ∧ State.reset.cfg.wrAddrPos ≤ wrAddrPosMax)
  max_legal := (by decide : State.reset.maxAttempts ≠ 0)
  snap_legal := by simp [State.reset, Status.reset]
  busy_clears := by simp [State.reset, Status.reset]
  abort_ok := by simp [State.reset]
  wait_ok := by simp [State.reset]
  attempts_le := by simp [State.reset, Status.reset]
  attempts_ok := by simp [State.reset]
  written_ok := by simp [State.reset, Status.reset]
  bus_ok := hok
  bus_open := hopen
  bus_due := rfl
  rst_idle _ := rfl

/-- Reset meets the invariant at either level of `rst`, its mark recorded. -/
theorem Inv.resetTo (h : Inv s) (level : Bool) : Inv (s.resetTo level) :=
  inv_reset level s.agenda s.draws s.readData (log := .cut :: s.busLog) h.bus_ok rfl

end Sys2Proof.Safety
end

section
/-! SUPPORT. Every host access keeps the invariant. -/

namespace Sys2Proof.Safety

open Sys2Proof.Machine

variable {s t : State}

/-! ### What host writes store -/

theorem clampPos_toNat (p : BitVec 5) : (clampPos p).toNat = min (max p.toNat 16) 25 := by
  unfold clampPos wrAddrPosMin wrAddrPosMax
  split
  · bv_omega
  split <;> bv_omega

theorem clampPos_legal (p : BitVec 5) : wrAddrPosMin ≤ clampPos p ∧ clampPos p ≤ wrAddrPosMax := by
  have h := clampPos_toNat p
  unfold wrAddrPosMin wrAddrPosMax
  constructor <;> bv_omega

theorem retryOfWrite_ne_zero (v : Word) : retryOfWrite v ≠ 0 := by
  simp only [retryOfWrite]
  split
  · decide
  · assumption

/-! ### Acceptance -/

/-- A block that is not busy is IDLE, with nothing of a command left. -/
theorem Inv.idle (h : Inv s) (hb : s.status.busy = false) : s.phase = .idle := by
  by_contra hp
  simp [h.busy_iff.mpr hp] at hb

/-- The invariant of a block that is not busy, from the clauses that speak of its registers. -/
theorem Inv.of_idle (h : Inv s) (hs : s.phase = .idle) (busy : t.status.busy = false) (phase : t.phase = .idle)
    (cfg : t.cfg = s.cfg) (max : t.maxAttempts = s.maxAttempts) (abort : t.abortPending = false)
    (written : t.status.written = true → t.status.err = .none) (log : t.busLog = s.busLog) : Inv t where
  busy_iff := by simp [busy, phase]
  phase_ok := by simp [phase, phaseOk]
  pos_legal := cfg ▸ h.pos_legal
  max_legal := max ▸ h.max_legal
  snap_legal := by simp [busy]
  busy_clears := by simp [busy]
  abort_ok := by simp [abort]
  wait_ok := by simp [phase]
  attempts_le := by simp [busy]
  attempts_ok := by simp [phase]
  written_ok hw := ⟨by simp [phase, mayBeWritten], written hw⟩
  bus_ok := log ▸ h.bus_ok
  bus_open := by rw [log, phase, ← hs]; exact h.bus_open
  bus_due := by simp [phase, dueAt]
  rst_idle _ := phase

/-- The OP of a command is pure or that of a bus command. -/
theorem op_of_port_cmd {i : Instr} (h : i.port = .cmd) :
    isPureOp i.op = true ∨ i.op = opWrreg ∨ hasReadPhase i.op = true := by
  cases i with
  | crc | enc _ | dec => exact .inl rfl
  | wrreg _ => exact .inr (.inl rfl)
  | rdreg _ | rdfld _ | wrfld _ => exact .inr (.inr rfl)
  | abort => cases h

/-- What the invariant asks of the phase a command starts at. -/
structure StartOk (l : Snapshot) (p : Phase) : Prop where
  not_idle : p ≠ .idle
  phase_ok : phaseOk l p = true
  no_wait : ∀ g, p ≠ .run (.wait g)
  attempts_ok : ∀ (s : State) q, s.status.attempts = 0 → p = .run q → attemptsOk s q = true
  closed : openAt p = false
  due_ok : ∀ log, dueAt log p = true

/-- A command starts at a phase of its procedure. -/
theorem startPhase_ok {l : Snapshot}
    (hop : isPureOp l.op = true ∨ l.op = opWrreg ∨ hasReadPhase l.op = true) : StartOk l (startPhase l) := by
  unfold startPhase
  split
  · next h => exact ⟨by simp, h, by simp, by simp, rfl, fun _ => rfl⟩
  · next h =>
    split
    · next hw =>
      have hwrite : hasWritePhase l.op = true := by rw [hw]; rfl
      refine ⟨by simp, txnOk_firstWriteTxn hwrite, by simp, ?_, rfl, fun _ => rfl⟩
      rintro s _ - ⟨⟩
      unfold firstWriteTxn
      split <;> rfl
    · next hw =>
      have hread : hasReadPhase l.op = true := by tauto
      refine ⟨by simp, hread, by simp, ?_, rfl, fun _ => rfl⟩
      rintro s _ h0 ⟨⟩
      simp [attemptsOk, h0]

/-- Acceptance keeps the invariant. -/
theorem Inv.acceptCmd {i : Instr} (h : Inv s) (hb : s.status.busy = false) (hrst : s.rst = false)
    (hi : i.port = .cmd) : Inv (acceptCmd i s) := by
  have hidle : s.phase = .idle := h.idle hb
  rcases acceptCmd_cases i s with ⟨-, heq⟩ | ⟨-, heq⟩ <;> rw [heq]
  · exact h.of_idle hidle hb hidle rfl rfl rfl (by simp) rfl
  · obtain ⟨idle, phase, wait, attempts, closed, due⟩ :=
      startPhase_ok (l := ((s.beginAccept (encode i)).takeSnapshot i.op i.raddr).snap) (op_of_port_cmd hi)
    have hopen : txnOpen s.busLog = false := by simpa [hidle, openAt] using h.bus_open
    obtain ⟨hlo, hhi⟩ := h.pos_legal
    refine Running.inv ⟨rfl, hrst, h.pos_legal, h.max_legal, ⟨hlo, hhi, h.max_legal⟩, ⟨rfl, rfl⟩, by simp, ?_, h.bus_ok⟩
      idle phase (fun g hg => absurd hg (wait g)) (fun q hq => attempts _ q rfl hq) (by simp)
      (hopen.trans closed.symm) (due _)
    exact BitVec.le_def.mpr (Nat.zero_le _)

/-- An abort request keeps the invariant. -/
theorem Inv.requestAbort (h : Inv s) : Inv s.requestAbort := by
  rcases requestAbort_cases s with ⟨hb, hop, heq⟩ | ⟨-, heq⟩ <;> rw [heq]
  · exact { h with
      abort_ok := fun _ => ⟨hb, hop⟩
      attempts_ok := fun q hq => (attemptsOk_congr rfl rfl rfl q).trans (h.attempts_ok q hq) }
  · exact h

/-! ### The other host accesses -/

/-- `t` differs from `s` at most in what a running command does not use: the host's registers, DONE, OVR, the level of
`rst`, and the model's own record of moves and reads. -/
def HostFrame (s t : State) : Prop :=
  t = { s with
    status := { s.status with done := t.status.done, ovr := t.status.ovr }
    opa := t.opa
    opb := t.opb
    opc := t.opc
    cfg := t.cfg
    devaddr := t.devaddr
    settleMs := t.settleMs
    maxAttempts := t.maxAttempts
    rst := t.rst
    agenda := t.agenda
    draws := t.draws
    readData := t.readData }

/-- Inside the host's frame the invariant rests on the legal values, DONE and `rst` alone. -/
theorem Inv.of_hostFrame (h : Inv s) (f : HostFrame s t)
    (pos : wrAddrPosMin ≤ t.cfg.wrAddrPos ∧ t.cfg.wrAddrPos ≤ wrAddrPosMax := by exact h.pos_legal)
    (max : t.maxAttempts ≠ 0 := by exact h.max_legal)
    (done : s.status.done = false → t.status.done = false := by exact id)
    (rst : t.rst = true → s.rst = true := by exact id) : Inv t := by
  have phase : t.phase = s.phase := (congrArg State.phase f :)
  have snap : t.snap = s.snap := (congrArg State.snap f :)
  have busy : t.status.busy = s.status.busy := (congrArg (·.status.busy) f :)
  have err : t.status.err = s.status.err := (congrArg (·.status.err) f :)
  have written : t.status.written = s.status.written := (congrArg (·.status.written) f :)
  have attempts : t.status.attempts = s.status.attempts := (congrArg (·.status.attempts) f :)
  have abort : t.abortPending = s.abortPending := (congrArg State.abortPending f :)
  have k : t.k = s.k := (congrArg State.k f :)
  have wcnt : t.wcnt = s.wcnt := (congrArg State.wcnt f :)
  have log : t.busLog = s.busLog := (congrArg State.busLog f :)
  exact {
    busy_iff := by rw [busy, phase]; exact h.busy_iff
    phase_ok := by rw [snap, phase]; exact h.phase_ok
    pos_legal := pos
    max_legal := max
    snap_legal := by rw [busy, snap]; exact h.snap_legal
    busy_clears := by rw [busy, err]; exact fun hb => ⟨done (h.busy_clears hb).1, (h.busy_clears hb).2⟩
    abort_ok := by rw [abort, busy, snap]; exact h.abort_ok
    wait_ok := by rw [phase, wcnt, snap]; exact h.wait_ok
    attempts_le := by rw [busy, attempts, snap]; exact h.attempts_le
    attempts_ok := fun q hq =>
      (attemptsOk_congr attempts k (congrArg Snapshot.max snap) q).trans (h.attempts_ok q (phase ▸ hq))
    written_ok := by rw [written, phase, err]; exact h.written_ok
    bus_ok := by rw [log]; exact h.bus_ok
    bus_open := by rw [log, phase]; exact h.bus_open
    bus_due := by rw [log, phase]; exact h.bus_due
    rst_idle := fun hr => phase ▸ h.rst_idle (rst hr) }

/-- Every performed host access keeps the invariant. -/
theorem Inv.hostEffect {a : HostAccess} (h : Inv s) (hrst : s.rst = false) (he : HostEffect s a t) : Inv t := by
  cases he with
  | read off => exact h.of_hostFrame rfl
  | dropped v busy => exact h.of_hostFrame rfl
  | illegal v idle =>
    have hidle : s.phase = .idle := h.idle idle
    exact h.of_idle hidle idle hidle rfl rfl rfl (by simp) rfl
  | accepted v i idle decoded port => exact h.acceptCmd idle hrst port
  | status v => exact h.of_hostFrame rfl (done := fun hd => by simp [Status.hostWrite, hd])
  | opa v => exact h.of_hostFrame rfl
  | opb v => exact h.of_hostFrame rfl
  | opc v => exact h.of_hostFrame rfl
  | cfg v => exact h.of_hostFrame rfl (pos := clampPos_legal _)
  | devaddr v => exact h.of_hostFrame rfl
  | timing v => exact h.of_hostFrame rfl
  | retry v => exact h.of_hostFrame rfl (max := retryOfWrite_ne_zero v)
  | abort v => exact h.requestAbort
  | ignored off v => exact h

/-! ### Every move -/

/-- Every move that is performed keeps the invariant. -/
theorem Inv.perform {e : Event} (h : Inv s) (hp : perform e s = .next t) : Inv t := by
  cases e with
  | host a =>
    obtain ⟨hrst, he⟩ := hostStep_effect hp
    exact h.hostEffect hrst he
  | engine r => cases hp; exact h.engineStep r
  | tick => cases hp; exact h.tickStep
  | reset => cases hp; exact h.resetTo false
  | rst level =>
    cases level with
    | true => cases hp; exact h.resetTo true
    | false => cases hp; exact h.of_hostFrame rfl (rst := by simp)

/-- Taking the next move off the agenda, or drawing it, keeps the invariant. -/
theorem Inv.nextEvent (h : Inv s) : Inv (nextEvent s).2 := by
  unfold Machine.nextEvent
  split <;> exact h.of_hostFrame rfl

/-- Settles O43: each agent's move keeps the invariant (`Inv.perform`), and taking the move does. -/
theorem stepKeepsTheInvariant : Obligations.StepKeepsTheInvariant :=
  fun _ _ h hs => h.nextEvent.perform hs

/-- Settles O42: the reset values meet the invariant with an empty record. -/
theorem resetMeetsTheInvariant : Obligations.ResetMeetsTheInvariant :=
  inv_reset false [] 0 0 (log := []) rfl rfl

end Sys2Proof.Safety
end

section
/-! SUPPORT. A running command reads only its snapshot (10_state R36): its steps commute with any change of the registers
the host writes. -/

namespace Sys2Proof.Machine

/-- Values for CMD's read value and the operand and configuration registers. -/
structure HostRegs where
  cmd : Word
  opa : Word
  opb : Word
  opc : Word
  cfg : Cfg
  devaddr : Addr7
  settleMs : BitVec 8
  maxAttempts : BitVec 8

/-- `s` with these values in CMD and the operand and configuration registers. -/
def State.withRegs (s : State) (v : HostRegs) : State :=
  { s with cmd := v.cmd, opa := v.opa, opb := v.opb, opc := v.opc, cfg := v.cfg, devaddr := v.devaddr
           settleMs := v.settleMs, maxAttempts := v.maxAttempts }

section
variable (s : State) (v : HostRegs)

/-- A choice that reads none of these registers commutes with the change when its branches do. -/
theorem ite_withRegs {c : Prop} [Decidable c] {a a' b b' : State} (ha : a' = a.withRegs v)
    (hb : b' = b.withRegs v) : (if c then a' else b') = (if c then a else b).withRegs v := by
  split <;> assumption

theorem afterWait_withRegs (g : Gap) : afterWait g (s.withRegs v) = (afterWait g s).withRegs v := by
  cases g <;> rfl

theorem enterWait_withRegs (g : Gap) : enterWait g (s.withRegs v) = (enterWait g s).withRegs v :=
  ite_withRegs v (afterWait_withRegs s v g) rfl

theorem tickWait_withRegs (g : Gap) : tickWait g (s.withRegs v) = (tickWait g s).withRegs v :=
  ite_withRegs v (afterWait_withRegs { s with wcnt := 0 } v g) rfl

theorem atSafePoint_withRegs {act act' : State} (h : act' = act.withRegs v) :
    atSafePoint (s.withRegs v) act' = (atSafePoint s act).withRegs v :=
  ite_withRegs v rfl h

theorem afterTxn_withRegs (t : Txn) : afterTxn t (s.withRegs v) = (afterTxn t s).withRegs v := by
  cases t with
  | address => exact enterWait_withRegs { s with k := 0 } v _
  | header => exact enterWait_withRegs s v _
  | whole => exact enterWait_withRegs { s with status := { s.status with written := true } } v _
  | codeword => exact enterWait_withRegs { s with status := { s.status with written := true } } v _

theorem readDone_withRegs (rv : Val11) (w : Codeword) :
    readDone rv w (s.withRegs v) = (readDone rv w s).withRegs v :=
  ite_withRegs v rfl (ite_withRegs v
    (enterWait_withRegs { s with rvOld := rv, newv := wrfldMerged s.snap rv } v .beforeWrite) rfl)

theorem beginStep_withRegs (t : Txn) : beginStep t (s.withRegs v) = (beginStep t s).withRegs v :=
  ite_withRegs v (atSafePoint_withRegs s v rfl) rfl

theorem byteStep_withRegs (t : Txn) (i : Nat) (r : BusReply) :
    byteStep t i r (s.withRegs v) = (byteStep t i r s).withRegs v := by
  have htxn : txnBytes t (s.withRegs v) = txnBytes t s := rfl
  cases h : (txnBytes t s)[i]? with
  | none => simp only [byteStep, htxn, h]
  | some b =>
    rw [byteStep_eq r h, byteStep_eq (s := s.withRegs v) r h]
    exact ite_withRegs v (ite_withRegs v rfl rfl) rfl

theorem endStep_withRegs (t : Txn) (r : BusReply) : endStep t r (s.withRegs v) = (endStep t r s).withRegs v :=
  ite_withRegs v rfl (afterTxn_withRegs (s.logBus (.ended r.ack)) v t)

theorem waitStep_withRegs (g : Gap) : waitStep g (s.withRegs v) = (waitStep g s).withRegs v :=
  ite_withRegs v (atSafePoint_withRegs s v rfl) rfl

theorem requestStep_withRegs (r : BusReply) : requestStep r (s.withRegs v) = (requestStep r s).withRegs v :=
  atSafePoint_withRegs s v (ite_withRegs v rfl rfl)

theorem readLoStep_withRegs (r : BusReply) : readLoStep r (s.withRegs v) = (readLoStep r s).withRegs v := by
  rw [readLoStep_eq, readLoStep_eq]
  exact ite_withRegs v (readDone_withRegs (s.takeLo r.byte) v _ _)
    (ite_withRegs v rfl (enterWait_withRegs (s.takeLo r.byte) v .retry))

theorem onAnswer_withRegs {act : BusReply → State → State} (r : Option BusReply)
    (h : ∀ a, act a (s.withRegs v) = (act a s).withRegs v) :
    onAnswer r act (s.withRegs v) = (onAnswer r act s).withRegs v := by
  cases r with
  | none => rfl
  | some a => exact h a

theorem busStep_withRegs (p : Pos) (r : Option BusReply) :
    busStep p r (s.withRegs v) = (busStep p r s).withRegs v := by
  cases p with
  | beginTxn t => exact beginStep_withRegs s v t
  | byte t i => exact onAnswer_withRegs s v r fun a => byteStep_withRegs s v t i a
  | endTxn t => exact onAnswer_withRegs s v r fun a => endStep_withRegs s v t a
  | wait g => exact waitStep_withRegs s v g
  | request => exact onAnswer_withRegs s v r fun a => requestStep_withRegs s v a
  | readHi => exact onAnswer_withRegs s v r fun _ => rfl
  | readLo => exact onAnswer_withRegs s v r fun a => readLoStep_withRegs s v a

theorem pureStep_withRegs : pureStep (s.withRegs v) = (pureStep s).withRegs v :=
  ite_withRegs v rfl (ite_withRegs v rfl (ite_withRegs v rfl rfl))

theorem engineStep_withRegs (r : Option BusReply) :
    engineStep r (s.withRegs v) = (engineStep r s).withRegs v := by
  refine ite_withRegs v rfl ?_
  have hp : (s.withRegs v).phase = s.phase := rfl
  rw [hp]
  cases s.phase with
  | idle => rfl
  | exec => exact pureStep_withRegs s v
  | run p => exact busStep_withRegs s v p r
  | finish e res => cases res <;> rfl

theorem tickStep_withRegs : tickStep (s.withRegs v) = (tickStep s).withRegs v := by
  refine ite_withRegs v rfl ?_
  have hp : (s.withRegs v).phase = s.phase := rfl
  rw [hp]
  split
  · exact tickWait_withRegs s v _
  · rfl

end

/-- Settles O19: engine steps and ticks commute with storing into the host's registers. -/
theorem runningCommandReadsOnlyItsSnapshot : Obligations.RunningCommandReadsOnlyItsSnapshot :=
  fun s r c a b d cfg dev settle max =>
    ⟨engineStep_withRegs s ⟨c, a, b, d, cfg, dev, settle, max⟩ r,
      tickStep_withRegs s ⟨c, a, b, d, cfg, dev, settle, max⟩⟩

end Sys2Proof.Machine
end

section
/-! The host's window and the writers of each register (10_state R20 to R41). -/

namespace Sys2Proof.Machine

open Sys2Proof.Safety

variable {s t : State}

/-! ### What a host access leaves alone -/

/-- Acceptance writes CMD, STATUS but for OVR, `abort_pending`, the snapshot and the phase. -/
theorem acceptCmd_frame (i : Instr) (s : State) :
    acceptCmd i s = { s with
      cmd := (acceptCmd i s).cmd
      status := { (acceptCmd i s).status with ovr := s.status.ovr }
      abortPending := (acceptCmd i s).abortPending
      snap := (acceptCmd i s).snap
      phase := (acceptCmd i s).phase } := by
  rcases acceptCmd_cases i s with ⟨-, h⟩ | ⟨-, h⟩ <;> rw [h] <;> rfl

/-- An abort request writes `abort_pending` alone. -/
theorem requestAbort_frame (s : State) : s.requestAbort = { s with abortPending := s.requestAbort.abortPending } := by
  rcases requestAbort_cases s with ⟨-, -, h⟩ | ⟨-, h⟩ <;> rw [h]

/-- No host access writes a result, and only a write stores an operand (10_state R26, R27). -/
theorem HostEffect.results_operands {a : HostAccess} (h : HostEffect s a t) :
    (t.res0 = s.res0 ∧ t.res1 = s.res1) ∧
    ((∃ v, a.op = .write v) ∨ t.opa = s.opa ∧ t.opb = s.opb ∧ t.opc = s.opc) := by
  cases h with
  | read off => exact ⟨⟨rfl, rfl⟩, .inr ⟨rfl, rfl, rfl⟩⟩
  | accepted v i =>
    have f := acceptCmd_frame i s
    exact ⟨⟨(congrArg State.res0 f :), (congrArg State.res1 f :)⟩, .inl ⟨v, rfl⟩⟩
  | abort v =>
    have f := requestAbort_frame s
    exact ⟨⟨(congrArg State.res0 f :), (congrArg State.res1 f :)⟩, .inl ⟨v, rfl⟩⟩
  | _ => exact ⟨⟨rfl, rfl⟩, .inl ⟨_, rfl⟩⟩

/-- OVR after a host access: set by a dropped command, cleared by a STATUS write, else as it was (10_state R24). -/
theorem HostEffect.ovr {a : HostAccess} (h : HostEffect s a t) :
    (∃ w, a = portWrite .cmd w ∧ s.status.busy = true ∧ t.status.ovr = true) ∨
    (∃ v, a = ⟨0x04, 4, .write v⟩ ∧ t.status.ovr = (s.status.ovr && !v.getLsbD 3)) ∨
    t.status.ovr = s.status.ovr := by
  cases h with
  | dropped v busy => exact .inl ⟨v, rfl, busy, rfl⟩
  | status v => exact .inr (.inl ⟨v, rfl, rfl⟩)
  | accepted v i => exact .inr (.inr (congrArg (·.status.ovr) (acceptCmd_frame i s) :))
  | abort v => exact .inr (.inr (congrArg (·.status.ovr) (requestAbort_frame s) :))
  | _ => exact .inr (.inr rfl)

/-! ### What the engine leaves alone -/

theorem engineStep_ovr (r : Option BusReply) (s : State) : (engineStep r s).status.ovr = s.status.ovr := by
  rcases engineStep_cases r s with f | ⟨e, res, -, -, h⟩
  · exact f.ovr
  · rw [h]; rfl

theorem engineStep_operands (r : Option BusReply) (s : State) :
    (engineStep r s).opa = s.opa ∧ (engineStep r s).opb = s.opb ∧ (engineStep r s).opc = s.opc := by
  rcases engineStep_cases r s with f | ⟨e, res, -, -, h⟩
  · exact ⟨f.opa, f.opb, f.opc⟩
  · rw [h]; exact ⟨rfl, rfl, rfl⟩

/-- An engine step leaves the results alone, or it is a completion step that gives them. -/
theorem engineStep_results (r : Option BusReply) (s : State) :
    ((engineStep r s).res0 = s.res0 ∧ (engineStep r s).res1 = s.res1) ∨
    ∃ e v, s.phase = .finish e (some v) ∧ (engineStep r s).res0 = v.res0 ∧ (engineStep r s).res1 = v.res1 := by
  rcases engineStep_cases r s with f | ⟨e, res, hp, -, h⟩
  · exact .inl ⟨f.res0, f.res1⟩
  · rw [h]
    cases res with
    | none => exact .inl ⟨rfl, rfl⟩
    | some v => exact .inr ⟨e, v, hp, rfl, rfl⟩

/-- Settles O36: every move but a reset and the completion step leaves the results alone, and every move but a host
write and a reset the operands. -/
theorem resultsAndOperandsHaveOneWriter : Obligations.ResultsAndOperandsHaveOneWriter := by
  intro s t e hp hreset hrst
  cases e with
  | host a =>
    obtain ⟨-, he⟩ := hostStep_effect hp
    obtain ⟨⟨h0, h1⟩, hop⟩ := he.results_operands
    refine ⟨fun h => by simp [h0, h1] at h, fun h => ?_⟩
    rcases hop with ⟨v, hv⟩ | ⟨ha, hb, hc⟩
    · exact ⟨a, v, rfl, hv⟩
    · simp [ha, hb, hc] at h
  | engine r =>
    cases hp
    obtain ⟨ha, hb, hc⟩ := engineStep_operands r s
    refine ⟨fun h => ?_, fun h => by simp [ha, hb, hc] at h⟩
    rcases engineStep_results r s with ⟨h0, h1⟩ | ⟨e, v, hf, h0, h1⟩
    · simp [h0, h1] at h
    · exact ⟨r, e, v, rfl, hf, h0, h1⟩
  | tick =>
    cases hp
    have f := tickStep_frame s
    exact ⟨fun h => by simp [f.res0, f.res1] at h, fun h => by simp [f.opa, f.opb, f.opc] at h⟩
  | reset => exact absurd rfl hreset
  | rst level => exact absurd rfl (hrst level)

/-- Settles O40: OVR changes by a dropped command, a STATUS write or a reset alone. -/
theorem ovrIsSticky : Obligations.OvrIsSticky := by
  intro s t e hp
  have same (h : t.status.ovr = s.status.ovr) {P Q : Prop} :
      (s.status.ovr = false → t.status.ovr = true → P) ∧ (s.status.ovr = true → t.status.ovr = false → Q) := by
    rw [h]
    exact ⟨fun h0 h1 => by simp [h0] at h1, fun h0 h1 => by simp [h0] at h1⟩
  cases e with
  | host a =>
    obtain ⟨-, he⟩ := hostStep_effect hp
    rcases he.ovr with ⟨w, rfl, busy, ht⟩ | ⟨v, rfl, ht⟩ | h
    · exact ⟨fun _ _ => ⟨w, rfl, busy⟩, fun _ h => by simp [ht] at h⟩
    · exact ⟨fun h0 h1 => by simp [ht, h0] at h1, fun h0 h1 => .inl ⟨v, rfl, by simpa [ht, h0] using h1⟩⟩
    · exact same h
  | engine r => cases hp; exact same (engineStep_ovr r s)
  | tick => cases hp; exact same (tickStep_frame s).ovr
  | reset => cases hp; exact ⟨fun _ h => absurd h Bool.false_ne_true, fun _ _ => .inr (.inl rfl)⟩
  | rst level =>
    cases level with
    | true => cases hp; exact ⟨fun _ h => absurd h Bool.false_ne_true, fun _ _ => .inr (.inr rfl)⟩
    | false => cases hp; exact same rfl

/-! ### Steps and instructions -/

/-- With nothing placed, the next move is a free one. -/
theorem step_free (h : s.agenda = []) : step s = perform (Config.freeEvent s.draws) { s with draws := s.draws + 1 } := by
  simp [step, nextEvent, h]

/-- A table word that is accepted decodes at its port. -/
theorem decode_of_decodeTableWord {nbits w : Nat} {i : Instr} (h : decodeTableWord nbits w = some i) :
    decode (tablePort nbits) (BitVec.ofNat 32 w) = .ok i := by
  unfold decodeTableWord at h
  split at h
  · cases hd : decode (tablePort nbits) (BitVec.ofNat 32 w) <;> simp_all [accepted]
  · cases h

/-- Settles O5: the placed move is performed, and a decoded host write is its instruction (`hostStep_decoded`). -/
theorem stepRunsDecodedInstruction : Obligations.StepRunsDecodedInstruction := by
  refine ⟨fun s e es => step_placed rfl, fun s h => step_free h, fun s es p v i ha hrst hd => ?_,
    fun s nbits w i hd => ?_⟩
  · rw [step_placed ha]
    exact hostStep_decoded hrst hd
  · rw [step_placed (s := s.withFetchWord nbits w) rfl]
    exact hostStep_decoded rfl (decode_of_decodeTableWord hd)

/-- Settles O6: each reset value is read off. -/
theorem resetLeavesTheSpecifiedValues : Obligations.ResetLeavesTheSpecifiedValues := by
  refine ⟨?_, ?_, ?_, ?_, ?_⟩ <;> decide

/-! ### Single registers -/

/-- ID is hardwired (10_state R34). -/
theorem regRead_id (s : State) : regRead 0x30 s = 0x00180B01 := by
  change idWord = _
  decide

/-- Settles O9: each offset's row of `regRead` and `regWrite`, behind an access that is performed. -/
theorem hostAccessesTouchTheirRegister : Obligations.HostAccessesTouchTheirRegister := by
  refine ⟨fun s => ?_, fun s off => hostStep_read off, fun s v hrst => ?_⟩
  · exact ⟨rfl, rfl, rfl, rfl, rfl, rfl, rfl, rfl, BitVec.setWidth_eq_append (by decide),
      BitVec.setWidth_eq_append (by decide), BitVec.setWidth_eq_append (by decide), rfl, regRead_id s, rfl, rfl, rfl⟩
  · refine ⟨hostStep_write _ v hrst rfl, hostStep_write _ v hrst rfl, hostStep_write _ v hrst rfl,
      hostStep_write _ v hrst rfl, hostStep_write _ v hrst rfl, hostStep_write _ v hrst rfl,
      hostStep_write _ v hrst rfl, ?_⟩
    simp only [List.forall_mem_cons, List.not_mem_nil, false_implies, implies_true, and_true]
    exact ⟨hostStep_write _ v hrst rfl, hostStep_write _ v hrst rfl, hostStep_write _ v hrst rfl,
      hostStep_write _ v hrst rfl, hostStep_write _ v hrst rfl, hostStep_write _ v hrst rfl⟩

/-- Settles O10: the STATUS write is `Status.hostWrite`. -/
theorem statusWriteClearsDoneAndOvr : Obligations.StatusWriteClearsDoneAndOvr :=
  fun _ v hrst => ⟨⟨_, hostStep_write _ v hrst rfl, rfl, rfl, rfl⟩, hostStep_read _ hrst rfl⟩

/-- Settles O13: ID reads a constant and its write falls to the ignored offsets. -/
theorem idIsHardwired : Obligations.IdIsHardwired := by
  intro s
  rw [regRead_id]
  refine ⟨by decide, by decide, by decide, by decide, by decide, fun v hrst => hostStep_write _ v hrst rfl⟩

/-- While BUSY = 1 every CMD write is dropped. -/
theorem writeCmd_busy (v : Word) (h : s.status.busy = true) : writeCmd v s = .next s.dropCmd := by
  rcases writeCmd_cases v s with ⟨-, hw⟩ | ⟨hi, -⟩ | ⟨i, hi, -⟩
  · exact hw
  · simp [h] at hi
  · simp [h] at hi

/-- Settles O16: a busy block drops the word (`writeCmd_busy`) and the command (`issue_busy`). -/
theorem busyCmdWriteOnlySetsOvr : Obligations.BusyCmdWriteOnlySetsOvr := by
  intro s hb
  refine ⟨fun w hrst => ?_, fun i hi => ?_⟩
  · exact (hostStep_write 0x00 w hrst rfl).trans (writeCmd_busy w hb)
  · rw [exec_eq, hi]
    exact congrArg _ (issue_busy i hb)

/-- In a state that meets the invariant a completion gives results exactly when its code is not fatal. -/
theorem results_isNone_eq_fatal {e : ErrCode} {res : Option Results} (h : Inv s) (hp : s.phase = .finish e res) :
    res.isNone = e.fatal := by
  have hphase := h.phase_ok
  rw [hp] at hphase
  simpa using (Bool.and_eq_true_iff.mp hphase).2

/-- Settles O37: the engine's step from FINISH is `State.complete`. -/
theorem completionIsOneStep : Obligations.CompletionIsOneStep := by
  intro s r e res hrst hp
  have hstep : engineStep r s = s.complete e res := by rw [engineStep_eq r hrst, hp]
  dsimp only
  rw [hstep]
  have given (v) (h : res = some v) : (s.complete e res).res0 = v.res0 ∧ (s.complete e res).res1 = v.res1 := by
    subst h; exact ⟨rfl, rfl⟩
  have kept (h : res = none) : (s.complete e res).res0 = s.res0 ∧ (s.complete e res).res1 = s.res1 := by
    subst h; exact ⟨rfl, rfl⟩
  refine ⟨fun h => ⟨fun he => ?_, fun he => ?_⟩, given, kept, rfl, rfl, rfl, rfl⟩
  · have hfatal : e.fatal = true := by revert he; cases e <;> decide
    exact kept (by simpa [hfatal] using results_isNone_eq_fatal h hp)
  · have hfatal : e.fatal = false := by revert he; cases e <;> decide
    obtain ⟨v, hv⟩ : ∃ v, res = some v := by
      simpa [hfatal, Option.isSome_iff_exists] using results_isNone_eq_fatal h hp
    exact ⟨v, hv, given v hv⟩

end Sys2Proof.Machine
end

section
/-! The bit places of STATUS and CFG (10_state R24, R28, R29; 60_exceptions R117). -/

namespace Sys2Proof.Machine

open Sys2Proof.Safety

/-- The fields of STATUS stand side by side (10_state R24). -/
theorem Status.toWord_fields (st : Status) :
    st.toWord.getLsbD 0 = st.busy ∧ st.toWord.getLsbD 1 = st.done ∧ st.toWord.getLsbD 2 = st.written ∧
    st.toWord.getLsbD 3 = st.ovr ∧ st.toWord.extractLsb' 4 4 = st.err.code ∧
    st.toWord.extractLsb' 8 8 = st.attempts ∧ st.toWord.extractLsb' 16 16 = 0 := by
  simp (disch := decide) only [Status.toWord, BitVec.getLsbD_setWidth, BitVec.getLsbD_append,
    BitVec.extractLsb'_setWidth_of_le, BitVec.extractLsb'_append_eq_of_le, BitVec.extractLsb'_append_eq_of_add_le]
  refine ⟨?_, ?_, ?_, ?_, BitVec.extractLsb'_eq_self, BitVec.extractLsb'_eq_self, BitVec.extractLsb'_eq_self⟩ <;>
    simp

/-- The fields of CFG stand side by side (10_state R28). -/
theorem Cfg.toWord_fields (c : Cfg) :
    c.toWord.getLsbD 0 = c.strictMask ∧ c.toWord.getLsbD 1 = c.wrTwoTxn ∧ c.toWord.getLsbD 2 = c.wrHdrParity ∧
    c.toWord.getLsbD 3 = c.rdHdrParity ∧ c.toWord.getLsbD 4 = c.wrAddrInCheck ∧ c.toWord.extractLsb' 5 3 = 0 ∧
    c.toWord.extractLsb' 8 5 = c.wrAddrPos ∧ c.toWord.extractLsb' 13 19 = 0 := by
  simp (disch := decide) only [Cfg.toWord, BitVec.getLsbD_setWidth, BitVec.getLsbD_append,
    BitVec.extractLsb'_setWidth_of_le, BitVec.extractLsb'_append_eq_of_le, BitVec.extractLsb'_append_eq_of_add_le]
  refine ⟨?_, ?_, ?_, ?_, ?_, BitVec.extractLsb'_eq_self, BitVec.extractLsb'_eq_self, BitVec.extractLsb'_eq_self⟩ <;>
    simp

/-- Settles O11: the fields of each word, the codes, and what a CFG write takes. -/
theorem statusAndCfgBitPlaces : Obligations.StatusAndCfgBitPlaces :=
  ⟨Status.toWord_fields, ⟨rfl, rfl, rfl, rfl, rfl, rfl, rfl, rfl⟩, Cfg.toWord_fields,
    fun _ => ⟨rfl, rfl, rfl, rfl, rfl, clampPos_toNat _⟩⟩

/-- An address shifted to bits 31:16 leaves the bits below 16 clear. -/
theorem shiftedAddr_low {a : Addr7} {p : Nat} (hlo : 16 ≤ p) {i : Nat} (hi : i < 16) :
    (a.setWidth 32 <<< p : Word).getLsbD i = false := by
  simp [BitVec.getLsbD_shiftLeft, show i < p by omega]

/-- The value fields of the check message are below bit 16 (30_encoding R71). -/
theorem cmr_high (x : Val11) {i : Nat} (hi : 16 ≤ i) : (cmr x).getLsbD i = false := by
  rw [cmr, BitVec.getLsbD_setWidth, BitVec.getLsbD_of_ge _ i hi, Bool.and_false]

/-- An address shifted by at most 25 loses no bit. -/
theorem shiftedAddr_ushiftRight (a : Addr7) {p : Nat} (hhi : p ≤ 25) :
    (a.setWidth 32 <<< p : Word) >>> p = a.setWidth 32 := by
  apply BitVec.eq_of_getLsbD_eq
  intro i hi
  simp only [BitVec.getLsbD_ushiftRight, BitVec.getLsbD_shiftLeft, BitVec.getLsbD_setWidth]
  by_cases h7 : i < 7
  · simp [show p + i < 32 by omega, hi]
  · simp [BitVec.getLsbD_of_ge a i (by omega)]

/-- Settles O12: the clamp (`clampPos_toNat`) keeps the shifted address off the low half word, where the value stands. -/
theorem wrAddrPosIsClamped : Obligations.WrAddrPosIsClamped := by
  intro v
  have hp : (Cfg.ofWrite v).wrAddrPos.toNat = min (max (v.extractLsb' 8 5).toNat 16) 25 := clampPos_toNat _
  have hlo : 16 ≤ (Cfg.ofWrite v).wrAddrPos.toNat := by omega
  have hhi : (Cfg.ofWrite v).wrAddrPos.toNat ≤ 25 := by omega
  refine ⟨hp, ⟨hlo, hhi⟩, fun a x => ⟨?_, shiftedAddr_ushiftRight a hhi, ?_⟩⟩
  · apply BitVec.eq_of_getLsbD_eq
    intro i hi
    rw [BitVec.getLsbD_extractLsb', Nat.zero_add, shiftedAddr_low hlo hi]
    simp
  · apply BitVec.eq_of_getLsbD_eq
    intro i _
    rw [BitVec.getLsbD_and]
    rcases Nat.lt_or_ge i 16 with h | h
    · simp [shiftedAddr_low hlo h]
    · simp [cmr_high x h]

end Sys2Proof.Machine
end

section
/-! The host's window: where it lies, which accesses it refuses, and its reserved bits (20_memory R42 to R44). -/

namespace Sys2Proof.Machine

variable {s t : State}

/-! ### The window (20_memory R42) -/

/-- An address of the window has its distance from `BASE_ADDR` as its offset. -/
theorem windowOffset_base_add (off : BitVec 6) : Config.windowOffset (Config.baseAddr + off.toNat) = some off := by
  have hin : Config.baseAddr ≤ Config.baseAddr + off.toNat ∧
      Config.baseAddr + off.toNat < Config.baseAddr + 64 := by
    have := off.isLt
    omega
  rw [Config.windowOffset, if_pos hin, Nat.add_sub_cancel_left, BitVec.ofNat_toNat, BitVec.setWidth_eq]

/-- An address outside the window has no offset. -/
theorem windowOffset_outside {addr : Nat} (h : addr < Config.baseAddr ∨ Config.baseAddr + 64 ≤ addr) :
    Config.windowOffset addr = none :=
  if_neg (by omega)

/-- Settles O7: the offset of an address inside the window (`windowOffset_base_add`) and of one outside it
(`windowOffset_outside`). -/
theorem windowIsSixtyFourBytesAtBase : Obligations.WindowIsSixtyFourBytesAtBase := by
  refine ⟨Nat.mul_mod_right 64 _, fun off width op => ?_, fun addr width op h => ?_⟩
  · rw [accessAt, windowOffset_base_add]; rfl
  · rw [accessAt, windowOffset_outside h]; rfl

/-! ### Refused accesses (20_memory R43, 70_reset_and_hazards R130) -/

/-- An access is acceptable when it is 4 bytes wide and stands at a multiple of 4. -/
theorem hostAccess_wf_iff (a : HostAccess) : a.wf = true ↔ a.width = 4 ∧ a.offset.toNat % 4 = 0 := by
  simp [HostAccess.wf, HostAccess.wordWide, HostAccess.aligned]

/-- Every access under `rst` is refused. -/
theorem hostStep_rst (a : HostAccess) (h : s.rst = true) : hostStep a s = .fault .accessInReset :=
  if_pos h

/-- Every access that is not acceptable is refused. -/
theorem hostStep_not_wf {a : HostAccess} (hrst : s.rst = false) (h : a.wf = false) :
    hostStep a s = .fault .accessRefused := by
  simp [hostStep, hrst, h]

/-- A host write answers a next state at every offset, with every word. -/
theorem regWrite_next (off : BitVec 6) (v : Word) (s : State) : ∃ t, regWrite off v s = .next t := by
  have hcmd : ∃ t, writeCmd v s = .next t := by
    rcases writeCmd_cases v s with ⟨-, h⟩ | ⟨-, -, h⟩ | ⟨i, -, -, -, h⟩ <;> exact ⟨_, h⟩
  unfold regWrite
  split
  case h_1 => exact hcmd
  case h_10 => exact ⟨_, writeCtrl_eq v s⟩
  all_goals exact ⟨_, rfl⟩

/-- Every acceptable access answers a next state while `rst` is deasserted. -/
theorem hostStep_next {a : HostAccess} (hrst : s.rst = false) (hw : a.width = 4) (ha : a.offset.toNat % 4 = 0) :
    ∃ t, hostStep a s = .next t := by
  obtain ⟨off, width, op⟩ := a
  obtain rfl : width = 4 := hw
  cases op with
  | read => exact ⟨_, hostStep_read off hrst ha⟩
  | write v =>
    rw [hostStep_write off v hrst ha]
    exact regWrite_next off v s

/-- Settles O8: `rst` is looked at first (`hostStep_rst`), then width and alignment (`hostStep_not_wf`), and what is left
is performed (`hostStep_next`). -/
theorem hostAccessRefusedOrPerformed : Obligations.HostAccessRefusedOrPerformed := by
  refine fun s a => ⟨hostStep_rst a, fun hrst h => hostStep_not_wf hrst ?_, hostStep_next⟩
  rw [Bool.eq_false_iff, ne_eq, hostAccess_wf_iff]
  tauto

/-! ### Reserved bits (20_memory R44) -/

/-- A word made by widening is 0 above the width of its field. -/
theorem extractLsb'_setWidth_above {n : Nat} (x : BitVec n) {start len : Nat} (h : n ≤ start) :
    (x.setWidth 32).extractLsb' start len = 0#len := by
  apply BitVec.eq_of_getLsbD_eq
  intro i _
  simp [BitVec.getLsbD_of_ge x (start + i) (by omega)]

section
variable {v v' m : Word} (h : v &&& m = v' &&& m)
include h

/-- Words that agree on a mask agree on each of its bits. -/
theorem getLsbD_congr_of_and {i : Nat} (hm : m.getLsbD i = true) : v.getLsbD i = v'.getLsbD i := by
  simpa [hm] using congrArg (BitVec.getLsbD · i) h

/-- Words that agree on a mask agree on each field inside it. -/
theorem extractLsb'_congr_of_and {start len : Nat} (hm : m.extractLsb' start len = BitVec.allOnes len) :
    v.extractLsb' start len = v'.extractLsb' start len := by
  simpa [BitVec.extractLsb'_and, hm] using congrArg (BitVec.extractLsb' start len) h

/-- Words that agree on a mask agree on their low bits when it holds these. -/
theorem setWidth_congr_of_and {n : Nat} (hm : m.setWidth n = BitVec.allOnes n) : v.setWidth n = v'.setWidth n := by
  simpa [BitVec.setWidth_and, hm] using congrArg (BitVec.setWidth n) h

end

/-- A CFG write reads its defined bits alone (10_state R28). -/
theorem Cfg.ofWrite_congr {v v' : Word} (h : v &&& 0x00001F1F = v' &&& 0x00001F1F) :
    Cfg.ofWrite v = Cfg.ofWrite v' := by
  unfold Cfg.ofWrite
  congr 1
  · exact getLsbD_congr_of_and h rfl
  · exact getLsbD_congr_of_and h rfl
  · exact getLsbD_congr_of_and h rfl
  · exact getLsbD_congr_of_and h rfl
  · exact getLsbD_congr_of_and h rfl
  · exact congrArg clampPos (extractLsb'_congr_of_and h rfl)

/-- A STATUS write reads bits 1 and 3 alone (10_state R25). -/
theorem Status.hostWrite_congr (st : Status) {v v' : Word} (h : v &&& 0x0000000A = v' &&& 0x0000000A) :
    st.hostWrite v = st.hostWrite v' := by
  rw [Status.hostWrite, Status.hostWrite, getLsbD_congr_of_and (i := 1) h rfl, getLsbD_congr_of_and (i := 3) h rfl]

/-- A RETRY write reads its low byte alone (10_state R32). -/
theorem retryOfWrite_congr {v v' : Word} (h : v &&& 0x000000FF = v' &&& 0x000000FF) :
    retryOfWrite v = retryOfWrite v' := by
  rw [retryOfWrite, retryOfWrite, setWidth_congr_of_and h rfl]

/-- Two aligned writes do the same when they store the same value in the same way. -/
theorem hostStep_write_congr {α : Type} (off : BitVec 6) {v v' : Word} {x x' : α} (hrst : s.rst = false)
    (ha : off.toNat % 4 = 0) (row : α → Result) (h : x = x') (hv : regWrite off v s = row x)
    (hv' : regWrite off v' s = row x') : hostStep ⟨off, 4, .write v⟩ s = hostStep ⟨off, 4, .write v'⟩ s := by
  rw [hostStep_write off v hrst ha, hostStep_write off v' hrst ha, hv, hv', h]

/-- Settles O14: the reserved offsets fall to the last rows of `regRead` and `regWrite`, every register word is 0 above
and between its fields, and what a write stores is read from the defined bits alone. -/
theorem reservedReadsZeroAndIgnoresWrites : Obligations.ReservedReadsZeroAndIgnoresWrites := by
  refine ⟨fun s => ?_, fun s => ?_, fun s v v' hrst => ⟨fun h => ?_, fun h => ?_, fun h => ?_, fun h => ⟨?_, ?_⟩,
    fun h => ?_⟩⟩
  · simp only [List.forall_mem_cons, List.not_mem_nil, false_implies, implies_true, and_true]
    exact ⟨⟨rfl, fun v hrst => hostStep_write _ v hrst rfl⟩, ⟨rfl, fun v hrst => hostStep_write _ v hrst rfl⟩,
      ⟨rfl, fun v hrst => hostStep_write _ v hrst rfl⟩⟩
  · obtain ⟨-, -, -, -, -, -, hstatus⟩ := s.status.toWord_fields
    obtain ⟨-, -, -, -, -, hmid, -, htop⟩ := s.cfg.toWord_fields
    refine ⟨hstatus, hmid, htop, extractLsb'_setWidth_above s.devaddr (by decide),
      extractLsb'_setWidth_above s.settleMs (by decide), extractLsb'_setWidth_above s.maxAttempts (by decide), rfl, ?_⟩
    rw [regRead_id]
    decide
  · exact hostStep_write_congr 0x04 hrst rfl (fun x => .next { s with status := x }) (s.status.hostWrite_congr h) rfl rfl
  · exact hostStep_write_congr 0x1C hrst rfl (fun x => .next { s with cfg := x }) (Cfg.ofWrite_congr h) rfl rfl
  · exact hostStep_write_congr 0x20 hrst rfl (fun x => .next { s with devaddr := x }) (setWidth_congr_of_and h rfl) rfl rfl
  · exact hostStep_write_congr 0x24 hrst rfl (fun x => .next { s with settleMs := x }) (setWidth_congr_of_and h rfl) rfl rfl
  · exact hostStep_write_congr 0x28 hrst rfl (fun x => .next { s with maxAttempts := x }) (retryOfWrite_congr h) rfl rfl
  · exact hostStep_write_congr 0x2C hrst rfl (fun b : Bool => .next (if b then s.requestAbort else s))
      (getLsbD_congr_of_and (i := 0) h rfl) (writeCtrl_eq v s) (writeCtrl_eq v' s)

end Sys2Proof.Machine
end

section
/-! What keeps a running command where it stands, what ends it, and the bus record it leaves (20_memory R47, R51, R54). -/

namespace Sys2Proof.Machine

open Sys2Proof.Safety

variable {s t : State}

/-- No host access moves a running command, ends it or reaches its bus record. -/
theorem HostEffect.of_busy {a : HostAccess} (h : HostEffect s a t) (hb : s.status.busy = true) :
    t.phase = s.phase ∧ t.wcnt = s.wcnt ∧ t.status.busy = true ∧ t.busLog = s.busLog := by
  cases h with
  | illegal v idle => simp [hb] at idle
  | accepted v i idle => simp [hb] at idle
  | abort v =>
    rw [requestAbort_frame]
    exact ⟨rfl, rfl, hb, rfl⟩
  | _ => exact ⟨rfl, rfl, hb, rfl⟩

/-- A tick outside a wait changes nothing (60_exceptions R124). -/
theorem tickStep_outside_wait (h : ∀ g, s.phase ≠ .run (.wait g)) : tickStep s = s := by
  unfold tickStep
  split
  · rfl
  split
  · next g hp => exact absurd hp (h g)
  · rfl

/-- An engine step without the answer it awaits changes nothing (20_memory R54). -/
theorem engineStep_unanswered {p : Pos} (hp : s.phase = .run p) (h : awaitsAnswer p = true) :
    engineStep none s = s := by
  cases hrst : s.rst with
  | true => exact engineStep_rst none hrst
  | false =>
    rw [engineStep_eq none hrst, hp]
    exact busStep_unanswered s h

/-- A wait is a safe point exactly when it is abortable (44_control R114). -/
theorem isSafePoint_wait (g : Gap) : isSafePoint (.wait g) = g.abortable := by
  cases g <;> rfl

/-- An engine step in a held wait changes nothing when there is no abort to take (43_register_transfer R100). -/
theorem engineStep_held_wait {g : Gap} (r : Option BusReply) (hp : s.phase = .run (.wait g))
    (h : s.abortPending = false ∨ isSafePoint (.wait g) = false) : engineStep r s = s := by
  cases hrst : s.rst with
  | true => exact engineStep_rst r hrst
  | false =>
    rw [engineStep_eq r hrst, hp]
    change waitStep g s = s
    rw [isSafePoint_wait] at h
    unfold waitStep
    split
    · next hg => exact atSafePoint_clear s (h.resolve_right (by simp [hg]))
    · rfl

/-- Settles O33: host accesses leave a running command where it stands (`HostEffect.of_busy`), and so does each agent
with no step enabled. -/
theorem holdEndsOnlyByAnswerTickOrReset : Obligations.HoldEndsOnlyByAnswerTickOrReset := by
  refine ⟨fun s t p e hb hp hawait hanswer hreset hrst hperf => ?_,
    fun s t g e hb hp habort htick hreset hrst hperf => ?_⟩
  · cases e with
    | host a =>
      obtain ⟨hphase, -, hbusy, hlog⟩ := (hostStep_effect hperf).2.of_busy hb
      exact ⟨hphase, hbusy, hlog, by simp⟩
    | engine r =>
      obtain rfl : r = none := Option.eq_none_iff_forall_ne_some.mpr fun a ha => hanswer a (congrArg _ ha)
      obtain rfl : s = t := (engineStep_unanswered hp hawait).symm.trans (Host.Outcome.next.inj hperf)
      exact ⟨rfl, hb, rfl, fun _ => rfl⟩
    | tick =>
      have hout : ∀ g, s.phase ≠ .run (.wait g) := by
        rintro g hg
        obtain rfl : p = .wait g := Phase.run.inj (hp.symm.trans hg)
        cases hawait
      obtain rfl : s = t := (tickStep_outside_wait hout).symm.trans (Host.Outcome.next.inj hperf)
      exact ⟨rfl, hb, rfl, fun _ => rfl⟩
    | reset => exact absurd rfl hreset
    | rst level => exact absurd rfl (hrst level)
  · cases e with
    | host a => exact (hostStep_effect hperf).2.of_busy hb
    | engine r =>
      obtain rfl : s = t := (engineStep_held_wait r hp habort).symm.trans (Host.Outcome.next.inj hperf)
      exact ⟨rfl, rfl, hb, rfl⟩
    | tick => exact absurd rfl htick
    | reset => exact absurd rfl hreset
    | rst level => exact absurd rfl (hrst level)

/-- Settles O38: host accesses (`HostEffect.of_busy`), ticks and engine steps inside the frame keep BUSY, which leaves
the completion step and the resets. -/
theorem busyFallsOnlyAtCompletion : Obligations.BusyFallsOnlyAtCompletion := by
  intro s t e hp hb ht
  have kept {P : Prop} (h : t.status.busy = s.status.busy) : P := by simp [h, hb] at ht
  cases e with
  | host a =>
    obtain ⟨-, -, hbusy, -⟩ := (hostStep_effect hp).2.of_busy hb
    exact kept (hbusy.trans hb.symm)
  | engine r =>
    cases hp
    rcases engineStep_cases r s with f | ⟨e, res, hphase, -, h⟩
    · exact kept f.busy
    · exact .inl ⟨r, e, res, rfl, hphase, h⟩
  | tick => cases hp; exact kept (tickStep_frame s).busy
  | reset => exact .inr (.inl rfl)
  | rst level =>
    cases level with
    | true => exact .inr (.inr rfl)
    | false => cases hp; exact kept rfl

/-- The phases in which a transaction is open. -/
theorem openAt_iff (p : Phase) :
    openAt p = true ↔ (∃ x i, p = .run (.byte x i)) ∨ ∃ x, p = .run (.endTxn x) := by
  cases p with
  | run q => cases q <;> simp [openAt]
  | _ => simp [openAt]

/-- Settles O44: the invariant, which the step keeps (`stepKeepsTheInvariant`), says it of every state. -/
theorem busRecordStaysWellFormed : Obligations.BusRecordStaysWellFormed := by
  intro s t h hs
  have ht : Inv t := stepKeepsTheInvariant s t h hs
  refine ⟨ht.bus_ok, ?_, fun hidle => ?_⟩
  · rw [ht.bus_open, openAt_iff]
  · rw [ht.bus_open, hidle]; rfl

end Sys2Proof.Machine
end

section
/-! The decoder and the encoder of command words (30_encoding R59 to R65, R74). -/

namespace Sys2Proof.Laws

/-! ### The fields of a word (30_encoding R60) -/

/-- Joining the fields of a word gives the word back. -/
theorem joinCmd_splitCmd (w : Word) : joinCmd (splitCmd w) = w := by
  apply BitVec.eq_of_getLsbD_eq
  intro j hj
  rw [getLsbD_joinCmd _ hj]
  simp only [splitCmd, BitVec.getLsbD_extractLsb']
  split
  · next h => simp [h]
  · split
    · next h4 h7 => simp [h7, show 4 + (j - 4) = j by omega]
    · next h4 h7 => simp [show 11 + (j - 4 - 7) = j by omega, show j - 4 - 7 < 21 by omega]

/-- A word is its fields. -/
theorem splitCmd_inj {w w' : Word} : splitCmd w = splitCmd w' ↔ w = w' :=
  (Function.LeftInverse.injective joinCmd_splitCmd).eq_iff

/-- A masked word has its fields masked. -/
theorem splitCmd_and (w m : Word) :
    splitCmd (w &&& m) = ⟨(splitCmd w).upper &&& (splitCmd m).upper, (splitCmd w).raddr &&& (splitCmd m).raddr,
      (splitCmd w).op &&& (splitCmd m).op⟩ := by
  simp [splitCmd, BitVec.extractLsb'_and]

/-! ### The decoder (30_encoding R62 to R65) -/

/-- The opcode map answers the command that has this OP and this RADDR. -/
theorem instrOf_ok_iff (op : BitVec 4) (a : Addr7) (i : Instr) :
    instrOf op a = .ok i ↔ i.port = .cmd ∧ i.raddr = a ∧ i.op = op := by
  constructor
  · intro h
    unfold instrOf at h
    split at h
    case h_1 ho | h_3 ho =>
      split at h <;> cases h
      next ha => exact ⟨rfl, ha.symm, BitVec.eq_of_toNat_eq ho.symm⟩
    case h_2 ho | h_4 ho | h_5 ho | h_6 ho | h_7 ho =>
      cases h
      exact ⟨rfl, rfl, BitVec.eq_of_toNat_eq ho.symm⟩
    case h_8 => cases h
  · rintro ⟨hp, rfl, rfl⟩
    cases i with
    | abort => cases hp
    | _ => rfl

/-- A word decodes to the command whose fields it has. -/
theorem decodeCmd_ok_iff (w : Word) (i : Instr) :
    decodeCmd w = .ok i ↔ i.port = .cmd ∧ splitCmd w = ⟨0, i.raddr, i.op⟩ := by
  unfold decodeCmd
  obtain ⟨upper, raddr, op⟩ := splitCmd w
  by_cases h : upper = 0
  · subst h
    rw [if_pos rfl, instrOf_ok_iff]
    simp [eq_comm]
  · rw [if_neg h]
    exact iff_of_false nofun fun ⟨_, hf⟩ => h (CmdFields.mk.inj hf).1

/-- The word of a command carries its fields (30_encoding R60). -/
theorem splitCmd_encode {i : Instr} (h : i.port = .cmd) : splitCmd (encode i) = ⟨0, i.raddr, i.op⟩ := by
  rw [encode, h]
  exact splitCmd_joinCmd _

/-- A word decodes to the command it encodes. -/
theorem decodeCmd_ok_iff_encode (w : Word) (i : Instr) : decodeCmd w = .ok i ↔ i.port = .cmd ∧ encode i = w := by
  rw [decodeCmd_ok_iff]
  refine and_congr_right fun h => ?_
  rw [← splitCmd_encode h, splitCmd_inj, eq_comm]

/-- A CTRL write decodes to ABORT by its bit 0, and to nothing else (30_encoding R65). -/
theorem decodeCtrl_ok_iff (w : Word) (i : Instr) : decodeCtrl w = .ok i ↔ i = .abort ∧ w.getLsbD 0 = true := by
  unfold decodeCtrl
  cases w.getLsbD 0 with
  | true => simp [eq_comm]
  | false => simp

/-- Settles O1: a command's word has the command's fields (`decodeCmd_ok_iff_encode`), and ABORT's has bit 0. -/
theorem decodeEncodeRoundTrip : Obligations.DecodeEncodeRoundTrip := by
  intro i
  cases hp : i.port with
  | cmd => exact (decodeCmd_ok_iff_encode _ i).mpr ⟨hp, rfl⟩
  | ctrl =>
    cases i with
    | abort => rfl
    | _ => cases hp

/-- Settles O2: `decodeCmd_ok_iff_encode` for CMD and `decodeCtrl_ok_iff` for CTRL. -/
theorem decodedWordIsItsEncoding : Obligations.DecodedWordIsItsEncoding := by
  refine ⟨fun w i h => ?_, fun w => ?_, fun w i h => ?_⟩
  · exact ((decodeCmd_ok_iff_encode w i).mp h).symm
  · simp [decodeCtrl_ok_iff]
  · exact ((decodeCtrl_ok_iff w i).mp h).1

/-! ### Which words are legal (30_encoding R63) -/

/-- What makes fields legal. -/
theorem wf_iff (f : CmdFields) :
    f.wf = true ↔ f.upper = 0 ∧ (1 ≤ f.op ∧ f.op ≤ 7) ∧ (f.op = 1 ∨ f.op = 3 → f.raddr = 0) := by
  simp [CmdFields.wf, CmdFields.upperZero, CmdFields.opKnown, CmdFields.raddrAllowed]
  tauto

/-- Legal fields are those of a command: each of the seven OPs has its constructor (30_encoding R62). -/
theorem exists_instr_of_wf {f : CmdFields} (h : f.wf = true) :
    ∃ i : Instr, i.port = .cmd ∧ f = ⟨0, i.raddr, i.op⟩ := by
  obtain ⟨upper, a, op⟩ := f
  obtain ⟨rfl, ⟨hlo, hhi⟩, ha⟩ := (wf_iff _).mp h
  have seven : ∀ op : BitVec 4, 1 ≤ op → op ≤ 7 →
      op = 1 ∨ op = 2 ∨ op = 3 ∨ op = 4 ∨ op = 5 ∨ op = 6 ∨ op = 7 := by decide
  rcases seven op hlo hhi with rfl | rfl | rfl | rfl | rfl | rfl | rfl
  · obtain rfl : a = 0 := ha (.inl rfl)
    exact ⟨.crc, rfl, rfl⟩
  · exact ⟨.enc a, rfl, rfl⟩
  · obtain rfl : a = 0 := ha (.inr rfl)
    exact ⟨.dec, rfl, rfl⟩
  · exact ⟨.rdreg a, rfl, rfl⟩
  · exact ⟨.wrreg a, rfl, rfl⟩
  · exact ⟨.rdfld a, rfl, rfl⟩
  · exact ⟨.wrfld a, rfl, rfl⟩

/-- A word decodes exactly when its fields are legal. -/
theorem exists_decodeCmd_ok_iff (w : Word) : (∃ i, decodeCmd w = .ok i) ↔ (splitCmd w).wf = true := by
  constructor
  · rintro ⟨i, h⟩
    obtain ⟨hp, rfl⟩ := (decodeCmd_ok_iff_encode w i).mp h
    simpa [Instr.wf, hp] using instr_wf i
  · intro h
    obtain ⟨i, hp, hf⟩ := exists_instr_of_wf h
    exact ⟨i, (decodeCmd_ok_iff w i).mpr ⟨hp, hf⟩⟩

/-- A row asks for zero upper bits and one OP, and for a zero RADDR where the OP is 1 or 3. -/
theorem opcodeRows_fields : ∀ r ∈ opcodeRows, ∃ op : BitVec 4, splitCmd r.value = ⟨0, 0, op⟩ ∧
    splitCmd r.mask = ⟨BitVec.allOnes 21, if op = 1 ∨ op = 3 then BitVec.allOnes 7 else 0, BitVec.allOnes 4⟩ := by
  decide

/-- What a word must be to hit a row. -/
theorem hits_iff {r : OpcodeRow} (hr : r ∈ opcodeRows) (w : Word) :
    r.hits w = true ↔
      (splitCmd w).op = (splitCmd r.value).op ∧ (splitCmd w).upper = 0 ∧
        ((splitCmd w).op = 1 ∨ (splitCmd w).op = 3 → (splitCmd w).raddr = 0) := by
  obtain ⟨op, hvalue, hmask⟩ := opcodeRows_fields r hr
  rw [OpcodeRow.hits, beq_iff_eq, ← splitCmd_inj, splitCmd_and, hvalue, hmask, CmdFields.mk.injEq]
  simp only [BitVec.and_allOnes]
  split
  · next hop =>
    rw [BitVec.and_allOnes]
    exact ⟨fun ⟨hu, ha, ho⟩ => ⟨ho, hu, fun _ => ha⟩, fun ⟨ho, hu, ha⟩ => ⟨hu, ha (ho ▸ hop), ho⟩⟩
  · next hop =>
    exact ⟨fun ⟨hu, _, ho⟩ => ⟨ho, hu, fun h => absurd (ho ▸ h) hop⟩, fun ⟨ho, hu, _⟩ => ⟨hu, BitVec.and_zero, ho⟩⟩

/-- Each OP from 1 to 7 stands in one row, and no other does. -/
theorem countP_op_eq_one_iff : ∀ op : BitVec 4,
    opcodeRows.countP (fun r => op == (splitCmd r.value).op) = 1 ↔ 1 ≤ op ∧ op ≤ 7 := by
  decide

/-- A word matches exactly one row when its fields are legal. -/
theorem countP_hits_eq_one_iff (w : Word) :
    opcodeRows.countP (fun r => r.hits w) = 1 ↔ (splitCmd w).wf = true := by
  rw [wf_iff]
  by_cases h : (splitCmd w).upper = 0 ∧ ((splitCmd w).op = 1 ∨ (splitCmd w).op = 3 → (splitCmd w).raddr = 0)
  · have hrows : opcodeRows.countP (fun r => r.hits w) =
        opcodeRows.countP (fun r => (splitCmd w).op == (splitCmd r.value).op) :=
      List.countP_congr fun r hr => by rw [hits_iff hr, and_iff_left h, beq_iff_eq]
    rw [hrows, countP_op_eq_one_iff]
    tauto
  · have hnone : opcodeRows.countP (fun r => r.hits w) = 0 :=
      List.countP_eq_zero.mpr fun r hr => by rw [hits_iff hr]; tauto
    rw [hnone]
    tauto

/-- Settles O3: the two forms of the rule and the decoder agree on legal fields (`wf_iff`, `countP_hits_eq_one_iff`,
`exists_decodeCmd_ok_iff`). -/
theorem legalWordMatchesExactlyOneRow : Obligations.LegalWordMatchesExactlyOneRow := by
  intro w
  exact ⟨(exists_decodeCmd_ok_iff w).trans (wf_iff _),
    (exists_decodeCmd_ok_iff w).trans (countP_hits_eq_one_iff w).symm⟩

/-- Settles O4: each word is decoded. -/
theorem sampleWordsDecode : Obligations.SampleWordsDecode := by
  unfold Obligations.SampleWordsDecode
  decide

end Sys2Proof.Laws
end

section
/-! Acceptance of a command (30_encoding R64 to R66, 10_state R36, 44_control R113). -/

namespace Sys2Proof.Machine

open Sys2Proof.Laws

variable {s : State}

/-! ### Illegal words (30_encoding R64) -/

/-- While BUSY = 0 a word that decodes to nothing is refused. -/
theorem writeCmd_illegal {v : Word} (hb : s.status.busy = false) (h : ¬ ∃ i, decodeCmd v = .ok i) :
    writeCmd v s = .next ((s.beginAccept v).refuseCmd .illegalCmd) := by
  rcases writeCmd_cases v s with ⟨hbusy, -⟩ | ⟨-, -, hw⟩ | ⟨i, -, hi, -⟩
  · simp [hb] at hbusy
  · exact hw
  · exact absurd ⟨i, hi⟩ h

/-- Settles O15: a word of each illegal class decodes to nothing (`wf_iff`), so it is refused (`writeCmd_illegal`). -/
theorem illegalWordCompletesAtOnce : Obligations.IllegalWordCompletesAtOnce := by
  intro s w hrst hb hill
  have hnone : ¬ ∃ i, decodeCmd w = .ok i := by
    rw [exists_decodeCmd_ok_iff, wf_iff]
    rintro ⟨hupper, ⟨hlo, hhi⟩, hraddr⟩
    rcases hill with h0 | h8 | hu | ⟨hop, ha⟩
    · exact absurd (h0 ▸ hlo : (1 : BitVec 4) ≤ 0) (by decide)
    · exact absurd (BitVec.le_trans h8 hhi : (8 : BitVec 4) ≤ 7) (by decide)
    · exact hu hupper
    · exact ha (hraddr hop)
  exact (hostStep_write 0x00 w hrst rfl).trans (writeCmd_illegal hb hnone)

/-! ### The start of a command (30_encoding R66) -/

/-- A command whose mask is not refused starts at the first phase of its snapshot. -/
theorem acceptCmd_start {i : Instr}
    (h : maskRefused ((s.beginAccept (encode i)).takeSnapshot i.op i.raddr).snap = false) :
    acceptCmd i s = ((s.beginAccept (encode i)).takeSnapshot i.op i.raddr).startCmd
      (startPhase ((s.beginAccept (encode i)).takeSnapshot i.op i.raddr).snap) := by
  rcases acceptCmd_cases i s with ⟨hrefused, -⟩ | ⟨-, hstart⟩
  · exact absurd (hrefused.symm.trans h) (by decide)
  · exact hstart

/-- No mask is refused when every mask command in strict mode has a good one. -/
theorem maskRefused_eq_false {l : Snapshot}
    (h : (l.op = 6 ∨ l.op = 7) → l.cfg.strictMask = true → maskOk l.mask = true) : maskRefused l = false := by
  by_cases hop : l.op = 6 ∨ l.op = 7
  · cases hs : l.cfg.strictMask <;> simp [maskRefused, hs, h hop]
  · have : isMaskOp l.op = false := by simpa [isMaskOp, opRdfld, opWrfld] using hop
    simp [maskRefused, this]

/-- Settles O17: acceptance does not refuse the mask, so the command starts (`acceptCmd_start`) and its OP gives
the phase. -/
theorem acceptanceStartsTheCommand : Obligations.AcceptanceStartsTheCommand := by
  intro s i hi hb hmask
  rw [exec_eq, issue_idle i hb, acceptCmd_start (maskRefused_eq_false hmask)]
  cases i with
  | abort => cases hi
  | _ => rfl

/-! ### The frame of issuing -/

/-- Issuing writes CMD, STATUS, `L`, the phase and `abort_pending` alone, ABORT the last of them alone, and a busy block
takes nothing of a command but OVR. -/
theorem exec_frame (i : Instr) (s : State) : ∃ cmd status snap phase abortPending,
    exec i s = .next { s with
      cmd := cmd, status := status, snap := snap, phase := phase, abortPending := abortPending } ∧
    (i.port = .ctrl → cmd = s.cmd ∧ status = s.status ∧ snap = s.snap ∧ phase = s.phase) ∧
    (s.status.busy = true → i.port = .cmd →
      cmd = s.cmd ∧ snap = s.snap ∧ phase = s.phase ∧ abortPending = s.abortPending) := by
  rw [exec_eq]
  cases hp : i.port with
  | ctrl =>
    exact ⟨_, _, _, _, _, congrArg _ (requestAbort_frame s), fun _ => ⟨rfl, rfl, rfl, rfl⟩, nofun⟩
  | cmd =>
    cases hb : s.status.busy with
    | true => exact ⟨_, _, _, _, _, congrArg _ (issue_busy i hb), nofun, fun _ _ => ⟨rfl, rfl, rfl, rfl⟩⟩
    | false => exact ⟨_, _, _, _, _, congrArg _ ((issue_idle i hb).trans (acceptCmd_frame i s)), nofun, nofun⟩

/-- Settles O34, by the frame of `exec`. -/
theorem issueFrame : Obligations.IssueFrame := by
  intro i s
  obtain ⟨_, _, _, _, _, h, hctrl, hbusy⟩ := exec_frame i s
  exact ⟨_, h, ⟨rfl, rfl, rfl, rfl, rfl⟩, ⟨rfl, rfl, rfl, rfl⟩, ⟨rfl, rfl, rfl, rfl, rfl, rfl, rfl⟩,
    ⟨rfl, rfl, rfl, rfl, rfl⟩, hctrl, hbusy⟩

end Sys2Proof.Machine
end

section
/-! The wire formats and the two codec functions (30_encoding R68 to R72, 41_register_codec R85, R86). -/

namespace Sys2Proof.Machine

/-! ### The write codeword (30_encoding R68) -/

/-- The value, the framing and the check stand side by side in a codeword. -/
theorem codeword_eq_append (v : Val11) (chk : Chk) : codeword v chk = v ++ (0b11 : BitVec 2) ++ chk := by
  have hframing : framing = (0b11 : BitVec 2).setWidth 16 <<< 3 := by decide
  apply BitVec.eq_of_getLsbD_eq
  intro i hi
  rw [codeword, hframing]
  simp only [BitVec.getLsbD_setWidth, BitVec.getLsbD_or, BitVec.getLsbD_append, BitVec.getLsbD_shiftLeft]
  rcases (by omega : i < 3 ∨ (3 ≤ i ∧ i < 5) ∨ 5 ≤ i) with hchk | hframe | hvalue <;>
    simp (disch := omega) only [decide_eq_true, decide_eq_false, if_pos, if_neg, BitVec.getLsbD_of_ge, Bool.and_true,
      Bool.and_false, Bool.true_and, Bool.false_and, Bool.or_false, Bool.false_or, Bool.not_true, Bool.not_false]
  · rw [Nat.sub_sub]

/-- The fields of a codeword. -/
theorem codeword_fields (v : Val11) (chk : Chk) :
    (codeword v chk).extractLsb' 5 11 = v ∧ (codeword v chk).extractLsb' 3 2 = (0b11 : BitVec 2) ∧
      (codeword v chk).extractLsb' 0 3 = chk := by
  rw [codeword_eq_append]
  simp (disch := decide) only [BitVec.extractLsb'_append_eq_of_le, BitVec.extractLsb'_append_eq_of_add_le]
  exact ⟨BitVec.extractLsb'_eq_self, BitVec.extractLsb'_eq_self, BitVec.extractLsb'_eq_self⟩

/-! ### The check messages (30_encoding R71, R72) -/

/-- The read check message: the value's upper 8 bits over its lower 3. -/
theorem cmr_eq_append (v : Val11) : cmr v = (v.extractLsb' 3 8 ++ 0#5 ++ v.extractLsb' 0 3).setWidth 32 := by
  have hupper : (0xFF00 : BitVec 16) = (BitVec.allOnes 8).setWidth 16 <<< 8 := by decide
  have hlower : (0x0007 : BitVec 16) = (BitVec.allOnes 3).setWidth 16 := by decide
  apply BitVec.eq_of_getLsbD_eq
  intro i hi
  rw [cmr, hupper, hlower]
  simp only [BitVec.getLsbD_setWidth, BitVec.getLsbD_or, BitVec.getLsbD_and, BitVec.getLsbD_append,
    BitVec.getLsbD_shiftLeft, BitVec.getLsbD_allOnes, BitVec.getLsbD_extractLsb']
  rcases (by omega : i < 3 ∨ (3 ≤ i ∧ i < 8) ∨ (8 ≤ i ∧ i < 16) ∨ 16 ≤ i) with hlow | hgap | hhigh | habove <;>
    simp (disch := omega) only [decide_eq_true, decide_eq_false, if_pos, if_neg, BitVec.getLsbD_of_ge, Bool.and_true,
      Bool.and_false, Bool.true_and, Bool.false_and, Bool.or_false, Bool.false_or, Bool.not_true, Bool.not_false]
  · rw [Nat.zero_add]
  · exact BitVec.getLsbD_zero.symm
  · rw [show 3 + (i - 3 - 5) = i - 5 by omega]

/-- The value fields and a shifted address do not overlap. -/
theorem cmr_and_shiftedAddr (v : Val11) (a : Addr7) {p : Nat} (hp : 16 ≤ p) :
    cmr v &&& (a.setWidth 32 <<< p) = 0#32 := by
  apply BitVec.eq_of_getLsbD_eq
  intro i _
  rw [BitVec.getLsbD_and]
  rcases Nat.lt_or_ge i 16 with h | h
  · simp [shiftedAddr_low hp h]
  · simp [cmr_high v h]

/-- The write check message adds the shifted address when configured. -/
theorem cmw_eq_add {c : Cfg} (a : Addr7) (v : Val11) (hp : 16 ≤ c.wrAddrPos.toNat) :
    cmw c a v = if c.wrAddrInCheck then cmr v + (a.setWidth 32 <<< c.wrAddrPos.toNat) else cmr v := by
  unfold cmw
  split
  · exact (BitVec.add_eq_or_of_and_eq_zero _ _ (cmr_and_shiftedAddr v a hp)).symm
  · exact BitVec.or_zero

/-! ### The header byte (30_encoding R70) -/

/-- A header byte is the address, with bit 7 for its parity. -/
theorem header_fields (parity : Bool) (a : Addr7) :
    (header parity a).extractLsb' 0 7 = a ∧ (header parity a).getLsbD 7 = (parity && par7 a) := by
  constructor
  · simp (disch := decide) only [header, BitVec.extractLsb'_setWidth_of_le, BitVec.extractLsb'_append_eq_of_add_le]
    exact BitVec.extractLsb'_eq_self
  · rw [header, BitVec.setWidth_eq, BitVec.getLsbD_append]
    simp

/-- With the parity a header byte has an even number of ones (00_scope R15): a closed fact of the 128 addresses. -/
theorem header_ones_even (a : Addr7) :
    ((List.range 8).countP (fun i => (header true a).getLsbD i)) % 2 = 0 := by
  decide +revert

/-! ### Decoding a response (30_encoding R69, 41_register_codec R86) -/

/-- Response words that agree on a mask agree on each field inside it. -/
theorem codeword_extractLsb'_congr_of_and {w w' m : Codeword} (h : w &&& m = w' &&& m) {start len : Nat}
    (hm : m.extractLsb' start len = BitVec.allOnes len) : w.extractLsb' start len = w'.extractLsb' start len := by
  simpa [BitVec.extractLsb'_and, hm] using congrArg (BitVec.extractLsb' start len) h

/-- Bits 4:3 of a response take part in nothing. -/
theorem decodeRead_congr {w w' : Codeword} (h : w &&& 0xFFE7 = w' &&& 0xFFE7) : decodeRead w = decodeRead w' := by
  rw [decodeRead, codeword_extractLsb'_congr_of_and h (start := 5) rfl,
    codeword_extractLsb'_congr_of_and h (start := 0) rfl, decodeRead]

/-- Settles O56: each format's fields, and what the two codec functions return by definition. -/
theorem wireLayouts : Obligations.WireLayouts := by
  refine ⟨codeword_fields, cmr_eq_append, fun c a v hlo _ => cmw_eq_add a v hlo, fun c a => ?_,
    fun _ _ => decodeRead_congr, fun _ _ _ => ⟨rfl, rfl, rfl⟩, fun w => ⟨rfl, rfl, rfl, beq_iff_eq⟩⟩
  exact ⟨header_fields _ a, header_fields _ a, header_ones_even a⟩

end Sys2Proof.Machine
end

section
/-! The bits of the working word and of a division step (40_checksum_engine R77 to R79). -/

namespace Sys2Proof.Machine

variable {w : Nat}

/-! ### What `bitlen` bounds (00_scope R13) -/

/-- `bitlen` is at most `n` exactly when no bit from `n` on is set. -/
theorem bitlen_le_iff (x : BitVec w) {n : Nat} : bitlen x ≤ n ↔ ∀ i, n ≤ i → x.getLsbD i = false :=
  ⟨fun h _ hi => getLsbD_of_bitlen_le x (h.trans hi), bitlen_le_of x⟩

/-- `bitlen` is at most `n` exactly for the numbers below `2^n`. -/
theorem bitlen_le_iff_toNat_lt (x : BitVec w) {n : Nat} : bitlen x ≤ n ↔ x.toNat < 2 ^ n := by
  rw [bitlen_le_iff]
  exact ⟨Nat.lt_pow_two_of_testBit _,
    fun h i hi => Nat.testBit_lt_two_pow (h.trans_le (Nat.pow_le_pow_right two_pos hi))⟩

/-- Widening a word keeps its `bitlen`. -/
theorem bitlen_setWidth (x : BitVec w) {v : Nat} (h : w ≤ v) : bitlen (x.setWidth v) = bitlen x :=
  eq_of_forall_ge_iff fun n => by
    rw [bitlen_le_iff_toNat_lt, bitlen_le_iff_toNat_lt, BitVec.toNat_setWidth_of_le h]

/-- A nonzero word has a most significant 1. -/
theorem bitlen_pos {x : BitVec w} (h : x ≠ 0) : 0 < bitlen x :=
  Nat.pos_of_ne_zero (mt (bitlen_eq_zero_iff x).mp h)

/-! ### A division step (40_checksum_engine R78) -/

/-- The bits of a word shifted up within its width. -/
theorem getLsbD_shiftLeft_of_bitlen (x : BitVec w) {k : Nat} (h : bitlen x + k ≤ w) (i : Nat) :
    (x <<< k).getLsbD i = (decide (k ≤ i) && x.getLsbD (i - k)) := by
  rw [BitVec.getLsbD_shiftLeft]
  by_cases hi : i < w
  · simp [hi, ← decide_not]
  · simp [hi, getLsbD_of_bitlen_le x (i := i - k) (by omega)]

/-- The bits of the working word after a division step. -/
theorem getLsbD_divStep (gen x : BitVec 64) (h : bitlen gen ≤ bitlen x) (i : Nat) :
    (divStep gen x).getLsbD i =
      (x.getLsbD i ^^ (decide (bitlen x - bitlen gen ≤ i) && gen.getLsbD (i - (bitlen x - bitlen gen)))) := by
  have hx : bitlen x ≤ 64 := bitlen_le x
  rw [divStep, BitVec.getLsbD_xor, getLsbD_shiftLeft_of_bitlen gen (by omega)]

/-- A division step changes no bit outside the generator's window. -/
theorem getLsbD_divStep_outside {gen x : BitVec 64} (h : bitlen gen ≤ bitlen x) {i : Nat}
    (hi : i < bitlen x - bitlen gen ∨ bitlen x ≤ i) : (divStep gen x).getLsbD i = x.getLsbD i := by
  rw [getLsbD_divStep gen x h]
  rcases hi with hlow | hhigh
  · simp [Nat.not_le.mpr hlow]
  · simp [getLsbD_of_bitlen_le gen (i := i - (bitlen x - bitlen gen)) (by omega)]

/-- A division step clears the working word's most significant 1: the generator's stands over it. -/
theorem bitlen_divStep_lt {gen x : BitVec 64} (hg : gen ≠ 0) (h : bitlen gen ≤ bitlen x) :
    bitlen (divStep gen x) < bitlen x := by
  have hpos : 0 < bitlen gen := bitlen_pos hg
  suffices bitlen (divStep gen x) ≤ bitlen x - 1 by omega
  refine bitlen_le_of _ fun i hi => ?_
  rcases Nat.lt_or_ge i (bitlen x) with htop | habove
  · obtain rfl : i = bitlen x - 1 := by omega
    have hover : bitlen x - 1 - (bitlen x - bitlen gen) = bitlen gen - 1 := by omega
    rw [getLsbD_divStep gen x h, hover, getLsbD_bitlen_pred x (by omega), getLsbD_bitlen_pred gen (by omega)]
    simp
    omega
  · rw [getLsbD_divStep_outside h (.inr habove), getLsbD_of_bitlen_le x habove]

/-- Settles O52, with `bitlen_divStep_lt` and `getLsbD_divStep_outside`. -/
theorem divisionStepClearsTheTopBit : Obligations.DivisionStepClearsTheTopBit :=
  fun _ _ hg h => ⟨bitlen_divStep_lt hg h, fun _ => getLsbD_divStep_outside h⟩

/-! ### The working word (40_checksum_engine R77, R79) -/

/-- Masking keeps the low `n` bits. -/
theorem toNat_and_lowMask (x : BitVec w) {n : Nat} (hn : n ≤ w) :
    (x &&& BitVec.ofNat w (2 ^ n - 1)).toNat = x.toNat % 2 ^ n := by
  have hpos : 0 < 2 ^ n := by positivity
  have hle : 2 ^ n ≤ 2 ^ w := Nat.pow_le_pow_right two_pos hn
  rw [BitVec.toNat_and, BitVec.toNat_ofNat, Nat.mod_eq_of_lt (by omega), Nat.and_two_pow_sub_one_eq_mod]

/-- The working word is the message above the low `n` bits of the filler. -/
theorem toNat_workWord (m f : Word) {n : Nat} (hn : n ≤ 32) :
    (workWord m f n).toNat = 2 ^ n * m.toNat + f.toNat % 2 ^ n := by
  have hfits : 2 ^ n * m.toNat < 2 ^ 64 :=
    calc 2 ^ n * m.toNat < 2 ^ n * 2 ^ 32 := Nat.mul_lt_mul_of_pos_left m.isLt (by positivity)
      _ ≤ 2 ^ 64 := by rw [← Nat.pow_add]; exact Nat.pow_le_pow_right two_pos (by omega)
  have hshift : (m.setWidth 64 <<< n).toNat = m.toNat <<< n := by
    rw [BitVec.toNat_shiftLeft, BitVec.toNat_setWidth_of_le (by decide), Nat.mod_eq_of_lt]
    rwa [Nat.shiftLeft_eq, Nat.mul_comm]
  rw [workWord, BitVec.toNat_or, hshift, toNat_and_lowMask _ (by omega), BitVec.toNat_setWidth_of_le (by decide),
    ← Nat.shiftLeft_add_eq_or_of_lt (Nat.mod_lt _ (by positivity)), Nat.shiftLeft_eq, Nat.mul_comm]

/-- The bits of the working word. -/
theorem getLsbD_workWord (m f : Word) {n : Nat} (hn : n ≤ 32) (i : Nat) :
    (workWord m f n).getLsbD i = if i < n then f.getLsbD i else m.getLsbD (i - n) := by
  rw [BitVec.getLsbD, toNat_workWord m f hn, Nat.testBit_two_pow_mul_add _ (Nat.mod_lt _ (by positivity)),
    Nat.testBit_mod_two_pow]
  split
  · next h => rw [decide_eq_true h]; rfl
  · rfl

/-- The working word is as long as the message allows (40_checksum_engine R81). -/
theorem bitlen_workWord_le (m f : Word) {n : Nat} (hn : n ≤ 32) : bitlen (workWord m f n) ≤ bitlen m + n := by
  refine bitlen_le_of _ fun i hi => ?_
  rw [getLsbD_workWord m f hn, if_neg (by omega), getLsbD_of_bitlen_le m (by omega)]

/-- Working words of fillers with the same low `n` bits are the same. -/
theorem workWord_congr (m : Word) {f f' : Word} {n : Nat} (hn : n ≤ 32) (h : f.toNat % 2 ^ n = f'.toNat % 2 ^ n) :
    workWord m f n = workWord m f' n :=
  BitVec.eq_of_toNat_eq (by rw [toNat_workWord m f hn, toNat_workWord m f' hn, h])

/-- The working word of a sum is the sum of the working words. -/
theorem workWord_xor (m₁ m₂ f₁ f₂ : Word) {n : Nat} (hn : n ≤ 32) :
    workWord (m₁ ^^^ m₂) (f₁ ^^^ f₂) n = workWord m₁ f₁ n ^^^ workWord m₂ f₂ n :=
  BitVec.eq_of_getLsbD_eq fun i _ => by
    simp only [BitVec.getLsbD_xor, getLsbD_workWord _ _ hn]
    split <;> rfl

/-- For a filler that fits, the working word is the plain OR (40_checksum_engine R79). -/
theorem workWord_of_lt (m : Word) {f : Word} {n : Nat} (hn : n < 32) (h : f.toNat < 2 ^ n) :
    workWord m f n = (m.setWidth 64 <<< n) ||| f.setWidth 64 := by
  rw [workWord]
  congr 1
  apply BitVec.eq_of_toNat_eq
  rw [toNat_and_lowMask _ (by omega), BitVec.toNat_setWidth_of_le (by decide), Nat.mod_eq_of_lt h]

end Sys2Proof.Machine
end

section
/-! Words as polynomials over GF(2), and the division loop as polynomial division (40_checksum_engine R82). -/

namespace Sys2Proof.Machine

open Polynomial

variable {w : Nat}

/-- The polynomial over GF(2) whose coefficient of `x^i` is bit `i`. -/
noncomputable def bitPoly (x : BitVec w) : (ZMod 2)[X] :=
  ∑ i ∈ Finset.range w, if x.getLsbD i then X ^ i else 0

/-- The coefficients are the bits. -/
theorem coeff_bitPoly (x : BitVec w) (i : Nat) : (bitPoly x).coeff i = if x.getLsbD i then 1 else 0 := by
  have hterm (j : Nat) : (if x.getLsbD j then (X : (ZMod 2)[X]) ^ j else 0).coeff i =
      if i = j then (if x.getLsbD i then 1 else 0) else 0 := by
    by_cases hij : i = j
    · subst hij; split <;> simp
    · split <;> simp [coeff_X_pow, hij]
  rw [bitPoly, finsetSum_coeff, Finset.sum_congr rfl fun j _ => hterm j, Finset.sum_ite_eq]
  split
  · rfl
  · next h => rw [BitVec.getLsbD_of_ge x i (by simpa using h)]; rfl

/-- A coefficient is 0 exactly where the bit is. -/
theorem coeff_bitPoly_eq_zero_iff (x : BitVec w) (i : Nat) : (bitPoly x).coeff i = 0 ↔ x.getLsbD i = false := by
  rw [coeff_bitPoly]
  cases x.getLsbD i <;> simp

/-- Changing the width keeps the polynomial when it cuts no 1 off. -/
theorem bitPoly_setWidth (x : BitVec w) {v : Nat} (h : bitlen x ≤ v) : bitPoly (x.setWidth v) = bitPoly x := by
  ext i
  rw [coeff_bitPoly, coeff_bitPoly, BitVec.getLsbD_setWidth]
  by_cases hi : i < v
  · simp [hi]
  · simp [hi, getLsbD_of_bitlen_le x (i := i) (by omega)]

/-- A word is its polynomial. -/
theorem bitPoly_injective : Function.Injective (bitPoly : BitVec w → (ZMod 2)[X]) := fun x y h =>
  BitVec.eq_of_getLsbD_eq fun i _ => by
    have hzero : x.getLsbD i = false ↔ y.getLsbD i = false := by
      rw [← coeff_bitPoly_eq_zero_iff, h, coeff_bitPoly_eq_zero_iff]
    exact Bool.eq_iff_iff.mpr (by simpa using hzero.not)

/-- XOR is addition. -/
theorem bitPoly_xor (x y : BitVec w) : bitPoly (x ^^^ y) = bitPoly x + bitPoly y := by
  ext i
  rw [coeff_add, coeff_bitPoly, coeff_bitPoly, coeff_bitPoly, BitVec.getLsbD_xor]
  cases x.getLsbD i <;> cases y.getLsbD i <;> simp [CharTwo.add_self_eq_zero]

/-- Moving the bits up by `k` multiplies by `x^k`. -/
theorem bitPoly_eq_mul_X_pow {v k : Nat} {x : BitVec w} {y : BitVec v}
    (h : ∀ i, x.getLsbD i = (decide (k ≤ i) && y.getLsbD (i - k))) : bitPoly x = bitPoly y * X ^ k := by
  ext i
  rw [coeff_mul_X_pow', coeff_bitPoly, coeff_bitPoly, h]
  by_cases hi : k ≤ i <;> simp [hi]

/-- `bitlen` bounds the degree. -/
theorem degree_bitPoly_lt_iff (x : BitVec w) (n : Nat) : (bitPoly x).degree < n ↔ bitlen x ≤ n := by
  simp only [degree_lt_iff_coeff_zero, coeff_bitPoly_eq_zero_iff, bitlen_le_iff]

/-- A nonzero word's polynomial has the degree of its most significant 1. -/
theorem degree_bitPoly {x : BitVec w} (h : x ≠ 0) : (bitPoly x).degree = (bitlen x - 1 : Nat) := by
  refine degree_eq_of_le_of_coeff_ne_zero ((degree_le_iff_coeff_zero _ _).mpr fun i hi => ?_) ?_
  · have htop : bitlen x - 1 < i := by exact_mod_cast hi
    exact (coeff_bitPoly_eq_zero_iff x i).mpr (getLsbD_of_bitlen_le x (by omega))
  · simp [coeff_bitPoly, getLsbD_bitlen_pred x (bitlen_pos h).ne']

/-- A nonzero word's polynomial is monic: over GF(2) its leading coefficient can only be 1. -/
theorem bitPoly_monic {x : BitVec w} (h : x ≠ 0) : (bitPoly x).Monic :=
  monic_of_degree_le _ (degree_bitPoly h).le (by simp [coeff_bitPoly, getLsbD_bitlen_pred x (bitlen_pos h).ne'])

/-! ### The division loop (40_checksum_engine R77, R78) -/

/-- A division step adds a multiple of the generator. -/
theorem bitPoly_divStep {gen x : BitVec 64} (h : bitlen gen ≤ bitlen x) :
    bitPoly (divStep gen x) = bitPoly x + bitPoly gen * X ^ (bitlen x - bitlen gen) := by
  have hx : bitlen x ≤ 64 := bitlen_le x
  rw [divStep, bitPoly_xor, bitPoly_eq_mul_X_pow (getLsbD_shiftLeft_of_bitlen gen (by omega))]

/-- With enough fuel the division loop leaves the remainder. -/
theorem bitPoly_divLoop {gen : BitVec 64} (hg : gen ≠ 0) {fuel : Nat} {x : BitVec 64}
    (h : bitlen x ≤ fuel + (bitlen gen - 1)) :
    bitPoly (divLoop gen (bitlen gen - 1) fuel x) = bitPoly x %ₘ bitPoly gen := by
  have hmonic : (bitPoly gen).Monic := bitPoly_monic hg
  have hdone {fuel : Nat} {x : BitVec 64} (hx : bitlen x ≤ bitlen gen - 1) :
      bitPoly (divLoop gen (bitlen gen - 1) fuel x) = bitPoly x %ₘ bitPoly gen := by
    rw [divLoop_done _ _ _ _ hx, eq_comm, modByMonic_eq_self_iff hmonic, degree_bitPoly hg, degree_bitPoly_lt_iff]
    exact hx
  induction fuel generalizing x with
  | zero => exact hdone (by omega)
  | succ fuel ih =>
    rcases Nat.lt_or_ge (bitlen gen - 1) (bitlen x) with hlong | hshort
    · have hfit : bitlen gen ≤ bitlen x := by omega
      have hlower : bitlen (divStep gen x) < bitlen x := bitlen_divStep_lt hg hfit
      rw [divLoop_step _ _ _ _ hlong, ih (by omega), bitPoly_divStep hfit, add_modByMonic, self_mul_modByMonic hmonic,
        add_zero]
    · exact hdone hshort

/-! ### The checksum (40_checksum_engine R77 to R82) -/

/-- A zero generator gives the filler back (40_checksum_engine R80). -/
theorem checksum_genZero (m f : Word) : checksum m 0 f = f := checksum_of_bitlen_zero rfl

section
variable {gen : Word} (hg : gen ≠ 0)
include hg

/-- The generator in the width of the working word. -/
theorem setWidth_gen_ne_zero : gen.setWidth 64 ≠ (0 : BitVec 64) := by
  rw [ne_eq, ← bitlen_eq_zero_iff, bitlen_setWidth gen (by decide)]
  exact (bitlen_pos hg).ne'

/-- `bitlen(m)` loop steps leave the remainder of the working word. -/
theorem bitPoly_divLoop_workWord (m f : Word) {fuel : Nat} (h : bitlen m ≤ fuel) :
    bitPoly (divLoop (gen.setWidth 64) (bitlen gen - 1) fuel (workWord m f (bitlen gen - 1))) =
      bitPoly (workWord m f (bitlen gen - 1)) %ₘ bitPoly gen := by
  have hn : bitlen gen ≤ 32 := bitlen_le gen
  have hwork : bitlen (workWord m f (bitlen gen - 1)) ≤ bitlen m + (bitlen gen - 1) := bitlen_workWord_le m f (by omega)
  have hgen : bitlen (gen.setWidth 64) = bitlen gen := bitlen_setWidth gen (by decide)
  have hloop := bitPoly_divLoop (setWidth_gen_ne_zero hg) (fuel := fuel) (x := workWord m f (bitlen gen - 1)) (by omega)
  rwa [hgen, bitPoly_setWidth gen (by omega)] at hloop

/-- A remainder is shorter than the generator. -/
theorem bitlen_le_of_eq_modByMonic {x : BitVec w} {p : (ZMod 2)[X]} (h : bitPoly x = p %ₘ bitPoly gen) :
    bitlen x ≤ bitlen gen - 1 := by
  rw [← degree_bitPoly_lt_iff, h, ← degree_bitPoly hg]
  exact degree_modByMonic_lt _ (bitPoly_monic hg)

/-- The checksum is the remainder of the working word. -/
theorem bitPoly_checksum (m f : Word) :
    bitPoly (checksum m gen f) = bitPoly (workWord m f (bitlen gen - 1)) %ₘ bitPoly gen := by
  have hn : bitlen gen ≤ 32 := bitlen_le gen
  have hloop := bitPoly_divLoop_workWord hg m f (bitlen_le m)
  have hshort := bitlen_le_of_eq_modByMonic hg hloop
  rw [checksum_of_bitlen_pos (bitlen_pos hg).ne', bitPoly_setWidth _ (by omega), hloop]

/-- The checksum is below `2^n` (40_checksum_engine R81). -/
theorem checksum_lt (m f : Word) : (checksum m gen f).toNat < 2 ^ (bitlen gen - 1) :=
  (bitlen_le_iff_toNat_lt _).mp (bitlen_le_of_eq_modByMonic hg (bitPoly_checksum hg m f))

/-- Only the low `n` bits of the filler are used (40_checksum_engine R79). -/
theorem checksum_congr (m : Word) {f f' : Word} (h : f.toNat % 2 ^ (bitlen gen - 1) = f'.toNat % 2 ^ (bitlen gen - 1)) :
    checksum m gen f = checksum m gen f' := by
  have hn : bitlen gen ≤ 32 := bitlen_le gen
  refine bitPoly_injective ?_
  rw [bitPoly_checksum hg, bitPoly_checksum hg, workWord_congr m (by omega) h]

/-- Of the zero message the low `n` bits of the filler are left (40_checksum_engine R80). -/
theorem checksum_msgZero (f : Word) : checksum 0 gen f = BitVec.ofNat 32 (f.toNat % 2 ^ (bitlen gen - 1)) := by
  have hn : bitlen gen ≤ 32 := bitlen_le gen
  have hshort : bitlen (workWord 0 f (bitlen gen - 1)) ≤ 0 + (bitlen gen - 1) := bitlen_workWord_le 0 f (by omega)
  rw [checksum_of_bitlen_pos (bitlen_pos hg).ne', divLoop_done _ _ _ _ (by omega)]
  apply BitVec.eq_of_toNat_eq
  rw [BitVec.toNat_setWidth, toNat_workWord 0 f (by omega), BitVec.toNat_ofNat]
  simp

/-- Of the zero message a filler that fits is left (40_checksum_engine R80). -/
theorem checksum_msgZero_of_lt {f : Word} (h : f.toNat < 2 ^ (bitlen gen - 1)) : checksum 0 gen f = f := by
  rw [checksum_msgZero hg, Nat.mod_eq_of_lt h, BitVec.ofNat_toNat, BitVec.setWidth_eq]

end

/-- The working word's polynomial (40_checksum_engine R77, R79). -/
theorem bitPoly_workWord (m f : Word) {n : Nat} (hn : n ≤ 32) :
    bitPoly (workWord m f n) = bitPoly m * X ^ n + bitPoly (f &&& BitVec.ofNat 32 (2 ^ n - 1)) := by
  ext i
  have hlow : (f &&& BitVec.ofNat 32 (2 ^ n - 1)).getLsbD i = (decide (i < n) && f.getLsbD i) := by
    rw [BitVec.getLsbD, toNat_and_lowMask f hn, Nat.testBit_mod_two_pow]
    rfl
  rw [coeff_add, coeff_mul_X_pow', coeff_bitPoly, coeff_bitPoly, coeff_bitPoly, getLsbD_workWord m f hn, hlow]
  by_cases hi : i < n
  · simp [hi, Nat.not_le.mpr hi]
  · simp [hi, Nat.not_lt.mp hi]

/-- Settles O48: the checksum is the remainder of the working word (`bitPoly_checksum`), which is the message above the
low bits of the filler (`bitPoly_workWord`). -/
theorem checksumIsThePolynomialRemainder : Obligations.ChecksumIsThePolynomialRemainder := by
  intro m gen f hg n
  have hn : bitlen gen ≤ 32 := bitlen_le gen
  have hwork := bitPoly_workWord m f (n := bitlen gen - 1) (by omega)
  exact (bitPoly_checksum hg m f).trans (congrArg (· %ₘ bitPoly gen) hwork)

/-- Settles O49: the remainder and the working word are both linear. -/
theorem checksumIsLinear : Obligations.ChecksumIsLinear := by
  intro m₁ m₂ gen f₁ f₂
  by_cases hg : gen = 0
  · simp only [hg, checksum_genZero]
  · have hn : bitlen gen ≤ 32 := bitlen_le gen
    apply bitPoly_injective
    rw [bitPoly_xor, bitPoly_checksum hg, bitPoly_checksum hg, bitPoly_checksum hg, workWord_xor _ _ _ _ (by omega),
      bitPoly_xor, add_modByMonic]

/-- A filler that fits is added to the fresh check (40_checksum_engine R82). -/
theorem checksum_eq_fresh_xor {gen : Word} (hg : gen ≠ 0) (m : Word) {f : Word}
    (h : f.toNat < 2 ^ (bitlen gen - 1)) : checksum m gen f = checksum m gen 0 ^^^ f := by
  have hsum := checksumIsLinear m 0 gen 0 f
  rw [checksum_msgZero_of_lt hg h] at hsum
  simpa using hsum

/-- Settles O50: the fresh check fits (`checksum_lt`), and a filler that fits is added to it. -/
theorem checksumRoundTripAndDuality : Obligations.ChecksumRoundTripAndDuality := by
  refine ⟨fun m gen => ?_, fun m gen f hg hf => ?_⟩
  · by_cases hg : gen = 0
    · simp only [hg, checksum_genZero]
    · exact (checksum_eq_fresh_xor hg m (checksum_lt hg m 0)).trans BitVec.xor_self
  · rw [checksum_eq_fresh_xor hg m hf]
    exact ⟨rfl, BitVec.xor_eq_zero_iff.trans eq_comm⟩

/-- Settles O51: the loop's step lowers `bitlen` (`bitlen_divStep_lt`), and with `bitlen(m)` steps or more the loop leaves
the one remainder (`bitPoly_divLoop_workWord`). -/
theorem checksumBounds : Obligations.ChecksumBounds := by
  intro m gen f hg n
  have hn : n ≤ 31 := Nat.sub_le_sub_right (bitlen_le gen) 1
  have hm : bitlen m ≤ 32 := bitlen_le m
  have hlt : (checksum m gen f).toNat < 2 ^ n := checksum_lt hg m f
  refine ⟨hlt, hlt.trans_le (Nat.pow_le_pow_right two_pos hn), ?_, fun x hx => ?_, hm, fun fuel hfuel => ?_⟩
  · have hwork : bitlen (workWord m f n) ≤ bitlen m + n := bitlen_workWord_le m f (by omega)
    exact (bitlen_le_iff_toNat_lt _).mp (by omega)
  · rw [ne_eq, ushiftRight_eq_zero_iff] at hx
    apply bitlen_divStep_lt (setWidth_gen_ne_zero hg)
    rw [bitlen_setWidth gen (by decide)]
    omega
  · apply bitPoly_injective
    rw [bitPoly_divLoop_workWord hg m f hfuel, bitPoly_divLoop_workWord hg m f hm]

/-- Settles O53, with `checksum_congr`, `workWord_of_lt`, and the example computed. -/
theorem fillerIsTakenModuloTwoToTheN : Obligations.FillerIsTakenModuloTwoToTheN := by
  refine ⟨fun m gen f hg => checksum_congr hg m ?_, fun m f n => workWord_of_lt m, by decide, by decide⟩
  have hlt : f.toNat % 2 ^ (bitlen gen - 1) < 2 ^ 32 := (Nat.mod_le _ _).trans_lt f.isLt
  rw [BitVec.toNat_ofNat, Nat.mod_eq_of_lt hlt, Nat.mod_mod]

/-- Settles O54. With generator 1 the result is below `2^0`; the bounds of a 32-bit generator are met by the message of
all ones, the generator `x^31` and the filler `x^30`. -/
theorem generatorCorners : Obligations.GeneratorCorners := by
  refine ⟨checksum_genZero, fun m f => ?_, fun m gen f hgen => ?_,
    ⟨0xFFFFFFFF, 0x80000000, 0x40000000, by decide, by decide, by decide⟩,
    fun gen f hg => checksum_msgZero_of_lt hg, fun gen f hg => checksum_msgZero hg f⟩
  · have hlt : (checksum m 1 f).toNat < 1 := checksum_lt (by decide) m f
    exact BitVec.eq_of_toNat_eq (by simpa using hlt)
  · have hg : gen ≠ 0 := by rintro rfl; cases hgen
    have hm : bitlen m ≤ 32 := bitlen_le m
    have hwork : bitlen (workWord m f 31) ≤ bitlen m + 31 := bitlen_workWord_le m f (by decide)
    have hres : bitlen (checksum m gen f) ≤ bitlen gen - 1 := (bitlen_le_iff_toNat_lt _).mpr (checksum_lt hg m f)
    omega

end Sys2Proof.Machine
end

section
/-! Which errors the checksum detects (40_checksum_engine R83). -/

namespace Sys2Proof.Machine

open Polynomial

variable {gen : Word}

/-- An error goes undetected exactly when the checksum of the error itself is 0. -/
theorem checksum_xor_eq_iff (m dm f df : Word) :
    checksum (m ^^^ dm) gen (f ^^^ df) = checksum m gen f ↔ checksum dm gen df = 0 := by
  rw [checksumIsLinear]
  simp

/-- The checksum is 0 exactly when the generator divides the working word. -/
theorem checksum_eq_zero_iff_dvd (hg : gen ≠ 0) (m f : Word) :
    checksum m gen f = 0 ↔ bitPoly gen ∣ bitPoly (workWord m f (bitlen gen - 1)) := by
  have hzero : bitPoly (0 : Word) = 0 := by
    ext i
    simp [coeff_bitPoly]
  rw [← bitPoly_injective.eq_iff, hzero, bitPoly_checksum hg, modByMonic_eq_zero_iff_dvd (bitPoly_monic hg)]

/-- A generator with bit 0 set divides no nonzero word shorter than itself, wherever that word is moved: the generator has
no factor `x`. -/
theorem bitPoly_not_dvd_mul_X_pow {w : Nat} (hodd : gen.getLsbD 0 = true) {b : BitVec w} (hb : b ≠ 0)
    (hlen : bitlen b ≤ bitlen gen - 1) (k : Nat) : ¬ bitPoly gen ∣ bitPoly b * X ^ k := by
  have hg : gen ≠ 0 := by rintro rfl; simp at hodd
  have hX : ¬ X ∣ bitPoly gen := by simp [X_dvd_iff, coeff_bitPoly, hodd]
  have hcoprime : IsCoprime (bitPoly gen) (X ^ k) := ((irreducible_X.coprime_iff_not_dvd).mpr hX).symm.pow_right
  have hne : bitPoly b ≠ 0 := (bitPoly_monic hb).ne_zero
  have hdeg : (bitPoly b).degree < (bitPoly gen).degree := by
    rw [degree_bitPoly hg, degree_bitPoly_lt_iff]
    exact hlen
  exact fun hdvd => (bitPoly_monic hg).not_dvd_of_degree_lt hne hdeg (hcoprime.dvd_of_dvd_mul_right hdvd)

/-- The codec's generator has degree 3. -/
theorem bitlen_codecGen : bitlen codecGen = 4 := by decide

/-- Every burst of at most 3 adjacent bits, anywhere in the working word, changes the result of the codec's generator. -/
theorem burst_detected (m f : Word) {dm df : Word} {b : BitVec 3} {k : Nat} (hb : b ≠ 0) (hdf : df.toNat < 8)
    (h : dm.toNat * 8 + df.toNat = b.toNat * 2 ^ k) :
    checksum (m ^^^ dm) codecGen (f ^^^ df) ≠ checksum m codecGen f := by
  have hwork : (workWord dm df (bitlen codecGen - 1)).toNat = b.toNat * 2 ^ k := by
    rw [toNat_workWord dm df (by decide), ← h, bitlen_codecGen]
    omega
  have hpoly : bitPoly (workWord dm df (bitlen codecGen - 1)) = bitPoly b * X ^ k :=
    bitPoly_eq_mul_X_pow fun i => by rw [BitVec.getLsbD, hwork, Nat.testBit_mul_two_pow, BitVec.getLsbD]
  rw [ne_eq, checksum_xor_eq_iff, checksum_eq_zero_iff_dvd (by decide), hpoly]
  exact bitPoly_not_dvd_mul_X_pow (by decide) hb ((bitlen_le b).trans_eq (by rw [bitlen_codecGen])) k

/-- One bit of a word. -/
theorem toNat_one_shiftLeft {i : Nat} (hi : i < 32) : ((1 : Word) <<< i).toNat = 2 ^ i :=
  BitVec.twoPow_eq 32 i ▸ BitVec.toNat_twoPow_of_lt hi

/-- Settles O55: single flips are bursts of one bit (`burst_detected`), and a flip above the check bits leaves the low
bits of the filler (`checksum_congr`). -/
theorem singleFlipsAndShortBurstsAreDetected : Obligations.SingleFlipsAndShortBurstsAreDetected := by
  refine ⟨fun m f i hi => ?_, fun m f i hi => ?_, fun m f i hlo hhi => checksum_congr (by decide) m ?_,
    fun m f dm df b k hb _ hdf h => burst_detected m f hb hdf h⟩
  · have hburst := burst_detected m f (dm := (1 : Word) <<< i) (df := 0) (b := 1) (k := i + 3) (by decide) (by decide)
      (by rw [toNat_one_shiftLeft hi]; simp [Nat.pow_succ]; omega)
    simpa using hburst
  · have hburst := burst_detected m f (dm := 0) (df := (1 : Word) <<< i) (b := 1) (k := i) (by decide)
      (by rw [toNat_one_shiftLeft (by omega)]; exact Nat.pow_lt_pow_right (by decide) hi)
      (by rw [toNat_one_shiftLeft (by omega)]; simp)
    simpa using hburst
  · have hflip : 2 ^ i % 2 ^ 3 = 0 := Nat.mod_eq_zero_of_dvd (Nat.pow_dvd_pow 2 hlo)
    rw [bitlen_codecGen, BitVec.toNat_xor, toNat_one_shiftLeft hhi, Nat.xor_mod_two_pow, hflip, Nat.xor_zero]

end Sys2Proof.Machine
end

section
/-! The run of a pure command, and CRC's (30_encoding R67, 40_checksum_engine R84). -/

namespace Sys2Proof.Machine

/-- A command in EXEC completes in two engine steps, with what its EXEC step has found. -/
theorem performAll_pure {t : State} {e : ErrCode} {res : Results} (r r' : Option BusReply) (hrst : t.rst = false)
    (hp : t.phase = .exec) (hstep : pureStep t = t.finishWith e res) :
    performAll [.engine r, .engine r'] t = .next (t.complete e (some res)) := by
  have hexec : engineStep r t = t.finishWith e res := by rw [engineStep_eq r hrst, hp]; exact hstep
  have hfinish : engineStep r' (t.finishWith e res) = t.complete e (some res) := engineStep_eq r' hrst
  rw [performAll_cons _ (congrArg _ hexec), performAll_cons _ (congrArg _ hfinish), performAll_nil]

/-- The EXEC step of CRC (30_encoding R67). -/
theorem pureStep_crc {t : State} (h : t.snap.op = opCrc) : pureStep t = crcStep t := if_pos h

/-- Settles O20: CRC is accepted (`acceptanceStartsTheCommand`), and its EXEC step is `crcStep`. -/
theorem crcRunsToCompletion : Obligations.CrcRunsToCompletion := by
  intro s r r' hrst hb
  refine ⟨_, acceptanceStartsTheCommand s .crc rfl hb (by simp [Instr.op]), rfl, ?_⟩
  rw [performAll_pure r r' ?_ rfl (pureStep_crc rfl)]
  · simp only [hb]
    rfl
  · exact hrst

end Sys2Proof.Machine
end

section
/-! The runs of ENC and DEC (30_encoding R67, 41_register_codec R88, R89). -/

namespace Sys2Proof.Machine

/-! ### ENC -/

/-- The EXEC step of ENC (30_encoding R67). -/
theorem pureStep_enc {t : State} (h : t.snap.op = opEnc) : pureStep t = encStep t := by
  rw [pureStep, h]
  rfl

/-- The results of ENC by shifts: in RES1 the check stands above the header byte (10_state R27). -/
theorem encodedResults_eq (e : Encoded) :
    encodedResults e = ⟨e.cw.setWidth 32, (e.chk.setWidth 32 <<< 8) ||| e.hdr.setWidth 32⟩ :=
  congrArg _ BitVec.setWidth_append_eq_shiftLeft_setWidth_or

/-- Settles O21: ENC is accepted (`acceptanceStartsTheCommand`), and its EXEC step is `encStep`. -/
theorem encRunsToCompletion : Obligations.EncRunsToCompletion := by
  intro s a r r' hrst hb e
  refine ⟨_, acceptanceStartsTheCommand s (.enc a) rfl hb (by simp [Instr.op]), rfl, ?_⟩
  rw [performAll_pure r r' ?_ rfl (pureStep_enc rfl), encodedResults_eq]
  · simp only [hb]
    rfl
  · exact hrst

/-! ### DEC -/

/-- The EXEC step of DEC (30_encoding R67). -/
theorem pureStep_dec {t : State} (h : t.snap.op = opDec) : pureStep t = decStep t := by
  rw [pureStep, h]
  rfl

/-- A response is valid exactly when its syndrome is 0 (41_register_codec R86). -/
theorem decodeRead_ok_iff (w : Codeword) : (decodeRead w).ok = true ↔ (decodeRead w).synd = 0 := beq_iff_eq

/-- The results of DEC by shifts: in RES1 the valid bit, the syndrome and the check do not overlap (10_state R27). -/
theorem decodedResults_eq {d : Decoded} (h : d.ok = true ↔ d.synd = 0) :
    decodedResults d = ⟨d.rv.setWidth 32,
      ((if d.synd = 0 then 0x100 else 0) ||| (d.synd.setWidth 32 <<< 4)) ||| d.chk.setWidth 32⟩ := by
  have hvalid : (BitVec.ofBool d.ok).setWidth 32 <<< 8 = ((if d.synd = 0 then 0x100 else 0 : Nat) : Word) := by
    simp only [← h]
    cases d.ok <;> rfl
  rw [decodedResults, ← hvalid]
  simp only [BitVec.setWidth_append_eq_shiftLeft_setWidth_or, BitVec.shiftLeft_or_distrib, ← BitVec.shiftLeft_add,
    BitVec.setWidth_zero, BitVec.or_zero]

/-- Settles O22: DEC is accepted (`acceptanceStartsTheCommand`), and its EXEC step is `decStep`. -/
theorem decRunsToCompletion : Obligations.DecRunsToCompletion := by
  intro s r r' hrst hb d
  refine ⟨_, acceptanceStartsTheCommand s .dec rfl hb (by simp [Instr.op]), rfl, ?_⟩
  rw [performAll_pure r r' ?_ rfl (pureStep_dec rfl), decodedResults_eq (decodeRead_ok_iff _)]
  · simp only [decodeRead_ok_iff, hb]
    rfl
  · exact hrst

end Sys2Proof.Machine
end

section
/-! Codewords on the read path (41_register_codec R87). -/

namespace Sys2Proof.Machine

open Polynomial

/-! ### The check of a message -/

/-- The check bits of a message: its checksum under the codec's generator (41_register_codec R85). -/
def codecCheck (m : Word) : Chk := (checksum m codecGen 0).setWidth 3

/-- The check is linear in the message. -/
theorem codecCheck_xor (m m' : Word) : codecCheck (m ^^^ m') = codecCheck m ^^^ codecCheck m' := by
  have hsum : checksum (m ^^^ m') codecGen 0 = checksum m codecGen 0 ^^^ checksum m' codecGen 0 :=
    checksumIsLinear m m' codecGen 0 0
  rw [codecCheck, hsum, BitVec.setWidth_xor, codecCheck, codecCheck]

/-- The checksum fits the check bits, so that none of its ones is cut off. -/
theorem checksum_setWidth_eq_zero_iff (m f : Word) :
    (checksum m codecGen f).setWidth 3 = (0 : Chk) ↔ checksum m codecGen f = 0 := by
  have hlt : (checksum m codecGen f).toNat < 2 ^ 3 := checksum_lt (by decide) m f
  rw [← BitVec.toNat_inj, ← BitVec.toNat_inj, BitVec.toNat_setWidth, Nat.mod_eq_of_lt hlt]
  rfl

/-- Check bits are a filler that fits. -/
theorem toNat_chk_lt (chk : Chk) : (chk.setWidth 32).toNat < 2 ^ 3 :=
  (BitVec.toNat_setWidth_of_le (by decide)).trans_lt chk.isLt

/-- Check bits as the filler are added to the message's own check. -/
theorem checksum_codecGen_chk (m : Word) (chk : Chk) :
    (checksum m codecGen (chk.setWidth 32)).setWidth 3 = codecCheck m ^^^ chk := by
  rw [checksum_eq_fresh_xor (by decide) m (toNat_chk_lt chk), BitVec.setWidth_xor,
    BitVec.setWidth_setWidth_of_le _ (by decide), BitVec.setWidth_eq, codecCheck]

/-! ### The check of a written value (30_encoding R71, R72) -/

/-- The read check message is linear in the value. -/
theorem cmr_xor (v v' : Val11) : cmr (v ^^^ v') = cmr v ^^^ cmr v' := by
  simp only [cmr_eq_append, ← BitVec.setWidth_xor, BitVec.xor_append, BitVec.extractLsb'_xor, BitVec.xor_self]

/-- With the address out of the check, a value is written with its read check. -/
theorem encodeWrite_chk_of_not_inCheck {c : Cfg} (h : c.wrAddrInCheck = false) (a : Addr7) (v : Val11) :
    (encodeWrite c a v).chk = codecCheck (cmr v) := by
  simp [encodeWrite, codecCheck, cmw, h]

/-- With the address in the check, the check of the shifted address is added to the value's: the two parts of the message
do not overlap, so that their OR is their sum. -/
theorem encodeWrite_chk_of_inCheck {c : Cfg} (h : c.wrAddrInCheck = true) (hp : 16 ≤ c.wrAddrPos.toNat) (a : Addr7)
    (v : Val11) :
    (encodeWrite c a v).chk = codecCheck (cmr v) ^^^ codecCheck (a.setWidth 32 <<< c.wrAddrPos.toNat) := by
  have hcmw : cmw c a v = cmr v ^^^ (a.setWidth 32 <<< c.wrAddrPos.toNat) := by
    rw [cmw, if_pos h]
    apply BitVec.eq_of_getLsbD_eq
    intro i _
    rw [BitVec.getLsbD_or, BitVec.getLsbD_xor]
    rcases Nat.lt_or_ge i 16 with hi | hi
    · rw [shiftedAddr_low hp hi, Bool.or_false, Bool.xor_false]
    · rw [cmr_high v hi, Bool.false_or, Bool.false_xor]
  rw [← codecCheck_xor, ← hcmw]
  rfl

/-! ### What a codeword reads back as (41_register_codec R87(a), R87(c), R87(d)) -/

/-- A written codeword reads back with its value and its check. -/
theorem decodeRead_encodeWrite (c : Cfg) (a : Addr7) (v : Val11) :
    decodeRead (encodeWrite c a v).cw =
      { rv := v, chk := (encodeWrite c a v).chk, synd := codecCheck (cmr v) ^^^ (encodeWrite c a v).chk
        ok := codecCheck (cmr v) ^^^ (encodeWrite c a v).chk == 0 } := by
  have hcw : (encodeWrite c a v).cw = codeword v (encodeWrite c a v).chk := rfl
  obtain ⟨hv, -, hchk⟩ := codeword_fields v (encodeWrite c a v).chk
  rw [decodeRead, hcw, hv, hchk, checksum_codecGen_chk]

/-- Settles O57: the written check is the read check (`encodeWrite_chk_of_not_inCheck`), so that the syndrome is 0, and it
is linear in the message, as the message is in the value. -/
theorem codewordReadsBackValid : Obligations.CodewordReadsBackValid := by
  refine ⟨fun c a v h => ?_, fun c a v₁ v₂ h => ?_, fun c a v => ?_⟩
  · simp only [decodeRead_encodeWrite, encodeWrite_chk_of_not_inCheck h, BitVec.xor_self]
    rfl
  · simp only [encodeWrite_chk_of_not_inCheck h, cmr_xor, codecCheck_xor]
  · obtain ⟨hv, hframing, -⟩ := codeword_fields v (encodeWrite c a v).chk
    exact ⟨hframing, hv⟩

/-! ### The addresses without a trace in the check (41_register_codec R87(b)) -/

section
variable {gen : Word} (hodd : gen.getLsbD 0 = true)
include hodd

/-- A generator with bit 0 set has no factor `x`, so that moving a word changes nothing about divisibility by it. -/
theorem bitPoly_dvd_mul_X_pow_iff (p : (ZMod 2)[X]) (k : Nat) : bitPoly gen ∣ p * X ^ k ↔ bitPoly gen ∣ p := by
  have hX : ¬ X ∣ bitPoly gen := by simp [X_dvd_iff, coeff_bitPoly, hodd]
  have hcoprime : IsCoprime (bitPoly gen) (X ^ k) := ((irreducible_X.coprime_iff_not_dvd).mpr hX).symm.pow_right
  exact ⟨hcoprime.dvd_of_dvd_mul_right, fun hdvd => hdvd.mul_right _⟩

/-- The fresh check is 0 exactly when the generator divides the message. -/
theorem checksum_fresh_eq_zero_iff_dvd (m : Word) : checksum m gen 0 = 0 ↔ bitPoly gen ∣ bitPoly m := by
  have hg : gen ≠ 0 := by rintro rfl; simp at hodd
  have hn : bitlen gen ≤ 32 := bitlen_le gen
  have hwork : bitPoly (workWord m 0 (bitlen gen - 1)) = bitPoly m * X ^ (bitlen gen - 1) := by
    rw [bitPoly_workWord m 0 (by omega)]
    simp [bitPoly]
  rw [checksum_eq_zero_iff_dvd hg, hwork, bitPoly_dvd_mul_X_pow_iff hodd]

/-- Shifting a message, with no bit lost, does not change whether its fresh check is 0. -/
theorem checksum_shiftLeft_eq_zero_iff {m : Word} {k : Nat} (hk : bitlen m + k ≤ 32) :
    checksum (m <<< k) gen 0 = 0 ↔ checksum m gen 0 = 0 := by
  rw [checksum_fresh_eq_zero_iff_dvd hodd, bitPoly_eq_mul_X_pow (getLsbD_shiftLeft_of_bitlen m hk),
    bitPoly_dvd_mul_X_pow_iff hodd, checksum_fresh_eq_zero_iff_dvd hodd]

end

/-- A word passes exactly when its low 3 bits are the check of the bits above them: the working word of those two parts is
the word itself. -/
theorem checksum_append_eq_zero_iff (x : BitVec 4) (chk : Chk) :
    checksum ((x ++ chk).setWidth 32) codecGen 0 = 0 ↔ codecCheck (x.setWidth 32) = chk := by
  have hwork : workWord (x.setWidth 32) (chk.setWidth 32) 3 = (x ++ chk).setWidth 64 := by
    rw [workWord_of_lt _ (by decide) (toNat_chk_lt chk), BitVec.setWidth_append_eq_shiftLeft_setWidth_or,
      BitVec.setWidth_setWidth (by decide), BitVec.setWidth_setWidth (by decide)]
  have hlen : bitlen (x ++ chk) ≤ 7 := bitlen_le _
  calc checksum ((x ++ chk).setWidth 32) codecGen 0 = 0
    _ ↔ bitPoly codecGen ∣ bitPoly (workWord (x.setWidth 32) (chk.setWidth 32) 3) := by
      rw [checksum_fresh_eq_zero_iff_dvd (by decide), hwork, bitPoly_setWidth _ (by omega),
        bitPoly_setWidth _ (by omega)]
    _ ↔ checksum (x.setWidth 32) codecGen (chk.setWidth 32) = 0 := (checksum_eq_zero_iff_dvd (by decide) _ _).symm
    _ ↔ codecCheck (x.setWidth 32) = chk := by
      rw [← checksum_setWidth_eq_zero_iff, checksum_codecGen_chk]
      exact BitVec.xor_eq_zero_iff

/-- The words of 4 bits with their checks below them are the 16 listed addresses: a closed fact of the 128. -/
theorem codecCheck_eq_iff_append_mem (x : BitVec 4) (chk : Chk) :
    codecCheck (x.setWidth 32) = chk ↔ (x ++ chk : Addr7) ∈
    [0x00, 0x0B, 0x16, 0x1D, 0x27, 0x2C, 0x31, 0x3A, 0x45, 0x4E, 0x53, 0x58, 0x62, 0x69, 0x74, (0x7F : Addr7)] := by
  decide +revert

/-- Settles O58: the read path misses the shifted address alone (`encodeWrite_chk_of_inCheck`), whose check is 0 exactly
when the unshifted one's is (`checksum_shiftLeft_eq_zero_iff`), and so when its low 3 bits are the check of its upper 4
(`checksum_append_eq_zero_iff`). -/
theorem addressInCheckFailsOnTheReadPath : Obligations.AddressInCheckFailsOnTheReadPath := by
  intro c a v hin hlo hhi d
  have hsynd : d.synd = codecCheck (a.setWidth 32 <<< c.wrAddrPos.toNat) := by
    simp only [d, decodeRead_encodeWrite, encodeWrite_chk_of_inCheck hin hlo, ← BitVec.xor_assoc, BitVec.xor_self,
      BitVec.zero_xor]
  have hfits : bitlen (a.setWidth 32) + c.wrAddrPos.toNat ≤ 32 := by
    rw [bitlen_setWidth a (by decide)]
    exact Nat.add_le_add (bitlen_le a) hhi
  have hsplit : a.extractLsb' 3 4 ++ a.extractLsb' 0 3 = a := BitVec.extractLsb'_append_extractLsb' (w := 4) (len := 3)
  refine ⟨hsynd, ?_⟩
  rw [decodeRead_ok_iff, hsynd, codecCheck, checksum_setWidth_eq_zero_iff,
    checksum_shiftLeft_eq_zero_iff (by decide) hfits, ← hsplit, checksum_append_eq_zero_iff,
    codecCheck_eq_iff_append_mem]

end Sys2Proof.Machine
end

section
/-! The mask functions: `ctz`, the runs that pass the strict check, and the merge (42_masked_accessor R90 to R97). -/

namespace Sys2Proof.Machine

variable {w : Nat}

/-! ### The lowest set bit (00_scope R14) -/

theorem getLsbD_of_lt_ctzFrom (m : BitVec w) {fuel i j : Nat} (hi : i ≤ j) (hj : j < ctzFrom m fuel i) :
    m.getLsbD j = false := by
  induction fuel generalizing i with
  | zero => exact absurd hj (Nat.not_lt_zero j)
  | succ fuel ih =>
    by_cases hm : m.getLsbD i = true
    · rw [ctzFrom, if_pos hm] at hj
      omega
    · rw [ctzFrom, if_neg hm] at hj
      rcases hi.eq_or_lt with rfl | hlt
      · simpa using hm
      · exact ih hlt hj

theorem getLsbD_ctzFrom (m : BitVec w) {fuel i j : Nat} (hi : i ≤ j) (hj : j < i + fuel) (h : m.getLsbD j = true) :
    m.getLsbD (ctzFrom m fuel i) = true := by
  induction fuel generalizing i with
  | zero => omega
  | succ fuel ih =>
    by_cases hm : m.getLsbD i = true
    · rwa [ctzFrom, if_pos hm]
    · rw [ctzFrom, if_neg hm]
      have hne : i ≠ j := fun he => hm (he ▸ h)
      exact ih (by omega) (by omega)

/-- No bit below `ctz` is set. -/
theorem getLsbD_of_lt_ctz (m : BitVec w) {j : Nat} (h : j < ctz m) : m.getLsbD j = false :=
  getLsbD_of_lt_ctzFrom m (Nat.zero_le j) h

/-- The bit at `ctz` is set as soon as any is. -/
theorem getLsbD_ctz (m : BitVec w) {j : Nat} (h : m.getLsbD j = true) : m.getLsbD (ctz m) = true :=
  getLsbD_ctzFrom m (Nat.zero_le j) (by have := BitVec.lt_of_getLsbD h; omega) h

theorem getLsbD_ctz_of_ne_zero {m : BitVec w} (h : m ≠ 0) : m.getLsbD (ctz m) = true := by
  by_contra hc
  refine h (BitVec.eq_of_getLsbD_eq fun i _ => ?_)
  simpa using mt (getLsbD_ctz m) hc

/-- `ctz` is the one position whose bit is set with none set below it. -/
theorem ctz_eq {m : BitVec w} {lo : Nat} (hlo : m.getLsbD lo = true) (hbelow : ∀ j < lo, m.getLsbD j = false) :
    ctz m = lo := by
  apply le_antisymm
  · by_contra hc
    simp [getLsbD_of_lt_ctz m (not_le.mp hc)] at hlo
  · by_contra hc
    simpa [hbelow _ (not_le.mp hc)] using getLsbD_ctz m hlo

/-! ### The merge (42_masked_accessor R92, R97) -/

/-- Bit `i` of a merge comes from the new value where the mask is set, and else from the current value. -/
theorem getLsbD_fieldMerge (cur m val : Val11) (i : Nat) :
    (fieldMerge cur m val).getLsbD i = if m.getLsbD i then val.getLsbD i else cur.getLsbD i := by
  rw [fieldMerge, BitVec.getLsbD_or, BitVec.getLsbD_and, BitVec.getLsbD_and, BitVec.getLsbD_not]
  cases hm : m.getLsbD i with
  | true => simp
  | false => simpa using BitVec.lt_of_getLsbD

/-- The merge keeps the bits outside the mask. -/
theorem fieldMerge_and_not (cur m val : Val11) : fieldMerge cur m val &&& ~~~m = cur &&& ~~~m := by
  apply BitVec.eq_of_getLsbD_eq
  intro i hi
  cases hm : m.getLsbD i <;> simp [getLsbD_fieldMerge, hm]

/-- The merge has the new value's bits inside the mask. -/
theorem fieldMerge_and (cur m val : Val11) : fieldMerge cur m val &&& m = val &&& m := by
  apply BitVec.eq_of_getLsbD_eq
  intro i hi
  cases hm : m.getLsbD i <;> simp [getLsbD_fieldMerge, hm]

/-- A second merge changes nothing. -/
theorem fieldMerge_idem (cur m val : Val11) : fieldMerge (fieldMerge cur m val) m val = fieldMerge cur m val := by
  rw [fieldMerge, fieldMerge_and_not]
  rfl

/-- Settles O60: the merge bit by bit (`getLsbD_fieldMerge`), and `ctz` as the lowest set bit. -/
theorem fieldMergeLaws : Obligations.FieldMergeLaws := fun rv m val =>
  ⟨fieldMerge_and_not rv m val, fieldMerge_idem rv m val, 
    by rw [fieldExtract, fieldMerge_and],
    fun _ => getLsbD_of_lt_ctz m, getLsbD_ctz_of_ne_zero⟩

/-! ### The strict check (42_masked_accessor R90, 00_scope R16) -/

/-- The test `(r + 1) & r = 0`, one bit wider than `r`, finds the words whose set bits are the lowest `k`. -/
theorem setWidth_succ_and_eq_zero_iff (r : BitVec w) :
    (r.setWidth (w + 1) + 1) &&& r.setWidth (w + 1) = 0 ↔ ∃ k, ∀ i, r.getLsbD i = decide (i < k) := by
  have hr : r.toNat + 1 < 2 ^ (w + 1) := by have := r.isLt; omega
  have htoNat : ((r.setWidth (w + 1) + 1) &&& r.setWidth (w + 1)).toNat = (r.toNat + 1) &&& (r.toNat + 1 - 1) := by
    have h1 : 1 % 2 ^ (w + 1) = 1 := Nat.mod_eq_of_lt (Nat.one_lt_two_pow (by omega))
    simp [h1, Nat.mod_eq_of_lt hr, Nat.mod_eq_of_lt (show r.toNat < 2 ^ (w + 1) by omega)]
  rw [← BitVec.toNat_inj, htoNat]
  change _ = 0 ↔ _
  rw [Nat.and_sub_one_eq_zero_iff_isPowerOfTwo (by omega)]
  refine exists_congr fun k => ?_
  have hk : r.toNat + 1 = 2 ^ k ↔ r.toNat = 2 ^ k - 1 := by have := Nat.two_pow_pos k; omega
  rw [hk]
  constructor
  · intro h i
    rw [← BitVec.testBit_toNat, h, Nat.testBit_two_pow_sub_one]
  · intro h
    exact Nat.eq_of_testBit_eq fun i => (h i).trans (Nat.testBit_two_pow_sub_one k i).symm

/-- The set bits of `m` are the `len` bits from `lo` up. -/
def IsRun (m : BitVec w) (lo len : Nat) : Prop := ∀ i, m.getLsbD i = decide (lo ≤ i ∧ i < lo + len)

theorem IsRun.getLsbD_iff {m : BitVec w} {lo len i : Nat} (h : IsRun m lo len) :
    m.getLsbD i = true ↔ lo ≤ i ∧ i < lo + len := by
  rw [h i, decide_eq_true_iff]

/-- The lowest set bit of a run is its first. -/
theorem IsRun.ctz_eq {m : BitVec w} {lo len : Nat} (h : IsRun m lo len) (hlen : 1 ≤ len) : ctz m = lo :=
  Machine.ctz_eq (h.getLsbD_iff.mpr (by omega)) fun j hj => (h j).trans (decide_eq_false (by omega))

/-- A word without its trailing zeros has its lowest `k` bits set exactly when it is a run of `k` bits. -/
theorem isRun_ctz_iff (m : BitVec w) (k : Nat) :
    IsRun m (ctz m) k ↔ ∀ i, (m >>> ctz m).getLsbD i = decide (i < k) := by
  simp only [BitVec.getLsbD_ushiftRight]
  constructor
  · intro h i
    simp [h (ctz m + i)]
  · intro h i
    rcases lt_or_ge i (ctz m) with hi | hi
    · exact (getLsbD_of_lt_ctz m hi).trans (decide_eq_false (by omega)).symm
    · obtain ⟨j, rfl⟩ := Nat.exists_eq_add_of_le hi
      simp [h j]

/-- A mask is good when it is not 0 and a run from its lowest set bit. -/
theorem maskOk_iff (m : Val11) : maskOk m = true ↔ m ≠ 0 ∧ ∃ k, IsRun m (ctz m) k := by
  simp only [isRun_ctz_iff, ← setWidth_succ_and_eq_zero_iff, maskOk, contiguous, Bool.and_eq_true, bne_iff_ne,
    beq_iff_eq]
  exact and_self_left

/-- A run within the width, by the bits inside it alone. -/
theorem isRun_iff {m : BitVec w} {lo len : Nat} (hw : lo + len ≤ w) :
    IsRun m lo len ↔ ∀ i < w, m.getLsbD i = decide (lo ≤ i ∧ i < lo + len) := by
  refine ⟨fun h i _ => h i, fun h i => ?_⟩
  by_cases hi : i < w
  · exact h i hi
  · exact (BitVec.getLsbD_of_ge m i (not_lt.mp hi)).trans (decide_eq_false (by omega)).symm

/-- A run that is not empty lies within the width. -/
theorem IsRun.le {m : BitVec w} {lo len : Nat} (h : IsRun m lo len) (hlen : 1 ≤ len) : lo + len ≤ w := by
  have hlast : m.getLsbD (lo + len - 1) = true := h.getLsbD_iff.mpr (by omega)
  have := BitVec.lt_of_getLsbD hlast
  omega

/-- A word that is not 0 is no empty run. -/
theorem IsRun.one_le {m : BitVec w} {lo len : Nat} (h : IsRun m lo len) (hm : m ≠ 0) : 1 ≤ len := by
  have := h.getLsbD_iff.mp (getLsbD_ctz_of_ne_zero hm)
  omega

/-- Settles O59: a good mask is a run from its lowest set bit (`maskOk_iff`), and a run can start nowhere else. -/
theorem maskOkMeansOneRun : Obligations.MaskOkMeansOneRun := by
  intro m
  rw [maskOk_iff]
  constructor
  · rintro ⟨hm, k, h⟩
    have hk := h.one_le hm
    exact ⟨ctz m, k, hk, h.le hk, (isRun_iff (h.le hk)).mp h⟩
  · rintro ⟨lo, len, hlen, hw, h⟩
    have hrun : IsRun m lo len := (isRun_iff hw).mpr h
    refine ⟨?_, len, (hrun.ctz_eq hlen).symm ▸ hrun⟩
    rintro rfl
    exact absurd (hrun.getLsbD_iff.mpr ⟨le_rfl, by omega⟩) (by simp)

end Sys2Proof.Machine
end

section
/-! The strict mask check at acceptance (42_masked_accessor R93). -/

namespace Sys2Proof.Machine

/-! ### A zero mask in permissive mode -/

theorem fieldExtract_zero (rv : Val11) : fieldExtract rv 0 = 0 := by
  simp [fieldExtract]

theorem fieldMerge_zero (rv val : Val11) : fieldMerge rv 0 val = rv :=
  BitVec.eq_of_getLsbD_eq fun i _ => by simp [getLsbD_fieldMerge]

/-! ### Acceptance -/

/-- A mask command in strict mode is refused on a bad mask. -/
theorem maskRefused_eq_true {l : Snapshot} (hop : isMaskOp l.op = true) (hs : l.cfg.strictMask = true)
    (hm : maskOk l.mask = false) : maskRefused l = true := by
  simp [maskRefused, hop, hs, hm]

/-- A command whose mask is refused completes in its acceptance step. -/
theorem acceptCmd_refused {i : Instr} {s : State}
    (h : maskRefused ((s.beginAccept (encode i)).takeSnapshot i.op i.raddr).snap = true) :
    acceptCmd i s = ((s.beginAccept (encode i)).takeSnapshot i.op i.raddr).refuseCmd .invalidMask := by
  rcases acceptCmd_cases i s with ⟨-, hrefused⟩ | ⟨hstart, -⟩
  · exact hrefused
  · exact absurd (hstart.symm.trans h) (by decide)

/-- RDFLD and WRFLD are written to CMD and use a mask. -/
theorem port_and_isMaskOp {a : Addr7} {i : Instr} (hi : i = .rdfld a ∨ i = .wrfld a) :
    i.port = .cmd ∧ isMaskOp i.op = true := by
  rcases hi with rfl | rfl <;> exact ⟨rfl, rfl⟩

/-- Settles O18: a bad mask is refused in strict mode (`acceptCmd_refused`), no mask in permissive mode
(`acceptanceStartsTheCommand`). -/
theorem strictMaskIsCheckedAtAcceptance : Obligations.StrictMaskIsCheckedAtAcceptance := by
  refine ⟨fun s a i hi hb => ⟨fun hs hm => ?_, fun hs => ?_⟩,
    fun rv val => ⟨fieldExtract_zero rv, fieldMerge_zero rv val⟩, fun rv m val => ⟨rfl, ?_⟩⟩
  · obtain ⟨hport, hop⟩ := port_and_isMaskOp hi
    have hexec : exec i s = .next (acceptCmd i s) := by rw [exec_eq, hport, ← issue_idle i hb]
    rw [acceptCmd_refused (maskRefused_eq_true hop hs hm)] at hexec
    exact ⟨_, hexec, rfl, rfl, rfl, rfl, rfl, rfl⟩
  · refine ⟨_, acceptanceStartsTheCommand s i (port_and_isMaskOp hi).1 hb fun _ hs' => ?_, rfl, ?_⟩
    · exact absurd (hs.symm.trans hs') (by decide)
    · rcases hi with rfl | rfl <;> rfl
  · rw [show (0x7FF : Val11) = BitVec.allOnes 11 from rfl, BitVec.and_allOnes]
    rfl

end Sys2Proof.Machine
end

section
/-! The parts of a bus command's run as exact states: settle waits and transactions (43_register_transfer R98 to
R101). -/

namespace Sys2Proof.Machine

open Sys2Proof.Safety

variable {s : State}

/-! ### Single moves -/

/-- An engine move inside RUN, `rst` deasserted. -/
theorem perform_engine_run {p : Pos} (r : Option BusReply) (hrst : s.rst = false) (hp : s.phase = .run p) :
    perform (.engine r) s = .next (busStep p r s) := by
  rw [perform, engineStep_eq r hrst, hp]

/-- The completion step, `rst` deasserted. -/
theorem perform_engine_finish {e : ErrCode} {res : Option Results} (r : Option BusReply) (hrst : s.rst = false)
    (hp : s.phase = .finish e res) : perform (.engine r) s = .next (s.complete e res) := by
  rw [perform, engineStep_eq r hrst, hp]

/-- One move alone. -/
theorem performAll_singleton (e : Event) (s : State) : performAll [e] s = perform e s := by
  rw [performAll]
  cases perform e s <;> rfl

/-! ### Settle waits (43_register_transfer R100) -/

/-- The tick that finds one tick left ends the wait. -/
theorem tickWait_last (g : Gap) (h : s.wcnt.toNat = 1) : tickWait g s = afterWait g { s with wcnt := 0 } :=
  if_pos (by bv_omega)

/-- Any other tick counts down. -/
theorem tickWait_count (g : Gap) (h : 1 < s.wcnt.toNat) : tickWait g s = { s with wcnt := s.wcnt - 1 } :=
  if_neg (by bv_omega)

/-- What follows a wait does not look at the phase. -/
theorem afterWait_of_phase (g : Gap) (s : State) (p : Phase) : afterWait g { s with phase := p } = afterWait g s := by
  cases g <;> rfl

/-- A held wait ends with as many ticks as it has left. -/
theorem performAll_ticks {g : Gap} {n : Nat} (hrst : s.rst = false) (hp : s.phase = .run (.wait g))
    (hn : s.wcnt.toNat = n + 1) :
    performAll (List.replicate (n + 1) .tick) s = .next (afterWait g { s with wcnt := 0 }) := by
  induction n generalizing s with
  | zero => rw [List.replicate_one, performAll_singleton, perform, tickStep_wait hrst hp, tickWait_last g hn]
  | succ n ih =>
    have htick : perform .tick s = .next { s with wcnt := s.wcnt - 1 } := by
      rw [perform, tickStep_wait hrst hp, tickWait_count g (by omega)]
    rw [List.replicate_succ, performAll_cons _ htick]
    exact ih hrst hp (by simp only; bv_omega)

/-- The ticks of a settle wait, none when `L.settle = 0`, bring what follows it, with `wcnt` at some value. -/
theorem performAll_settle (g : Gap) (hrst : s.rst = false) :
    ∃ n, performAll (settleTicks s.snap.settle) (enterWait g s) = .next (afterWait g { s with wcnt := n }) := by
  rcases enterWait_cases g s with ⟨h0, he⟩ | ⟨h0, he⟩
  · exact ⟨s.wcnt, by rw [he, h0]; rfl⟩
  · refine ⟨0, ?_⟩
    have hw : (s.snap.settle.setWidth 9 + 1).toNat = s.snap.settle.toNat + 1 := by bv_omega
    rw [he, settleTicks, if_neg h0, performAll_ticks (s := { s with wcnt := _, phase := .run (.wait g) }) hrst rfl hw]
    exact congrArg _ (afterWait_of_phase g { s with wcnt := 0 } _)

/-! ### Transactions (43_register_transfer R101) -/

/-- The record of a transaction still open, with these bytes sent, all answered OK; `txnCalls` without its `BusEnd`. -/
def openCalls (dev : Addr7) (bytes : List Byte) : List BusCall :=
  bytes.reverse.map (fun b => .wrote b true) ++ [.begun dev]

theorem txnCalls_eq (dev : Addr7) (bytes : List Byte) : txnCalls dev bytes = .ended true :: openCalls dev bytes := rfl

theorem openCalls_concat (dev : Addr7) (bytes : List Byte) (b : Byte) :
    openCalls dev (bytes ++ [b]) = .wrote b true :: openCalls dev bytes := by
  rw [openCalls, List.reverse_concat]
  rfl

/-- `s` with the transaction `x` begun and its first `i` bytes sent, all answered OK. -/
def State.sending (s : State) (x : Txn) (i : Nat) : State :=
  { s with
    terr := false
    busLog := openCalls s.snap.dev ((txnBytes x s).take i) ++ s.busLog
    phase := .run (if i < txnLength x then .byte x i else .endTxn x) }

/-- `s` with the transaction `x` sent, all answered OK. -/
def State.sent (s : State) (x : Txn) : State :=
  { s with
    terr := false
    busLog := txnCalls s.snap.dev (txnBytes x s) ++ s.busLog
    phase := .run (.endTxn x) }

/-- The `BusBegin` step without a pending abort. -/
theorem beginStep_eq_sending (x : Txn) (ha : s.abortPending = false) : beginStep x s = s.sending x 0 := by
  cases x with
  | codeword => rfl
  | _ => exact atSafePoint_clear _ ha

/-- An acknowledged byte. -/
theorem byteStep_sending {x : Txn} {i : Nat} {r : BusReply} (hi : i < txnLength x) (hr : r.ack = true) :
    byteStep x i r (s.sending x i) = s.sending x (i + 1) := by
  have hi' : i < (txnBytes x s).length := by rwa [txnBytes_length]
  have hbyte : (txnBytes x (s.sending x i))[i]? = some (txnBytes x s)[i] := List.getElem?_eq_getElem hi'
  have hlog : openCalls s.snap.dev ((txnBytes x s).take (i + 1)) =
      .wrote (txnBytes x s)[i] true :: openCalls s.snap.dev ((txnBytes x s).take i) := by
    rw [← List.take_append_getElem hi', openCalls_concat]
  rw [byteStep_eq r hbyte, hr, if_pos rfl, txnBytes_length, State.sending, State.sending, hlog]
  split <;> rfl

/-- The bytes from the `i`-th on, all answered OK. -/
theorem performAll_bytes {x : Txn} {i n : Nat} (hrst : s.rst = false) (hn : i + n ≤ txnLength x) :
    performAll (List.replicate n okMove) (s.sending x i) = .next (s.sending x (i + n)) := by
  induction n generalizing i with
  | zero => rfl
  | succ n ih =>
    have hi : i < txnLength x := by omega
    have hp : (s.sending x i).phase = .run (.byte x i) := by rw [State.sending, if_pos hi]
    have hmove : perform okMove (s.sending x i) = .next (s.sending x (i + 1)) := by
      rw [okMove, perform_engine_run (s := s.sending x i) _ hrst hp, busStep, onAnswer_some, byteStep_sending hi rfl]
    rw [List.replicate_succ, performAll_cons _ hmove, ih (by omega), Nat.add_right_comm, Nat.add_assoc]

/-- The `BusEnd` step of a transaction that went well. -/
theorem endStep_sending (x : Txn) {r : BusReply} (hr : r.ack = true) :
    endStep x r (s.sending x (txnLength x)) = afterTxn x (s.sent x) := by
  have hbytes : (txnBytes x s).take (txnLength x) = txnBytes x s := by rw [← txnBytes_length x s, List.take_length]
  rw [endStep_eq, hr, State.sending, State.sent, hbytes, if_neg (lt_irrefl _), txnCalls_eq]
  rfl

/-- A transaction, all answered OK. -/
theorem performAll_txn (x : Txn) (hrst : s.rst = false) (ha : s.abortPending = false)
    (hp : s.phase = .run (.beginTxn x)) :
    performAll (txnMoves (txnLength x)) s = .next (afterTxn x (s.sent x)) := by
  have hbegin : perform okMove s = .next (s.sending x 0) := by
    rw [okMove, perform_engine_run _ hrst hp, busStep, beginStep_eq_sending x ha]
  have hbytes : performAll (List.replicate (txnLength x) okMove) (s.sending x 0) =
      .next (s.sending x (txnLength x)) := by
    rw [performAll_bytes hrst (by omega), Nat.zero_add]
  have hq : (s.sending x (txnLength x)).phase = .run (.endTxn x) := by rw [State.sending, if_neg (lt_irrefl _)]
  have hend : perform okMove (s.sending x (txnLength x)) = .next (afterTxn x (s.sent x)) := by
    rw [okMove, perform_engine_run (s := s.sending x (txnLength x)) _ hrst hq, busStep, onAnswer_some,
      endStep_sending x rfl]
  rw [txnMoves, List.replicate_succ, performAll_cons _ hbegin, List.replicate_succ', performAll_append hbytes,
    performAll_singleton, hend]

end Sys2Proof.Machine
end

section
/-! A read phase whose responses are answered in full, to its last response (43_register_transfer R102 to R105). -/

namespace Sys2Proof.Machine

open Sys2Proof.Safety

variable {s : State}

/-! ### One attempt -/

/-- `s` with one more request made and answered in full. -/
def State.requested (s : State) : State :=
  { s.logBus (.requested s.snap.dev 2) with
    k := satSucc s.k
    status := { s.status with attempts := satSucc s.k }
    phase := .run .readHi }

/-- The first byte of a response is taken. -/
def State.takeHi (s : State) (b : Byte) : State := { s.logBus (.gotByte b) with hi := b, phase := .run .readLo }

/-- `s` with one more attempt made and answered with the word `w`, which is not looked at yet. -/
def State.attempted (s : State) (w : Codeword) : State :=
  { s with
    k := satSucc s.k
    status := { s.status with attempts := satSucc s.k }
    hi := w.extractLsb' 8 8
    lo := w.extractLsb' 0 8
    busLog := attemptCalls s.snap.dev w ++ s.busLog
    phase := .run .readLo }

/-- What follows the response `w`: the end of the read phase, the end of the command, or the next attempt. -/
def State.answered (s : State) (w : Codeword) : State :=
  if (decodeRead w).ok then readDone (decodeRead w).rv w s
  else if s.snap.max ≤ s.k then s.raise .deviceUnresponsive
  else enterWait .retry s

theorem answered_valid {w : Codeword} (h : (decodeRead w).ok = true) :
    s.answered w = readDone (decodeRead w).rv w s := if_pos h

theorem answered_retry {w : Codeword} (h : (decodeRead w).ok = false) (hk : s.k < s.snap.max) :
    s.answered w = enterWait .retry s := by
  rw [State.answered, h, if_neg Bool.false_ne_true, if_neg (BitVec.not_le.mpr hk)]

/-- The two bytes of a word, high byte first, make the word. -/
theorem append_bytes (w : Codeword) : (w.extractLsb' 8 8 ++ w.extractLsb' 0 8).setWidth 16 = w := by
  rw [BitVec.setWidth_eq]
  exact (BitVec.extractLsb'_append_extractLsb'_eq_extractLsb' rfl).trans BitVec.extractLsb'_eq_self

/-- A request without a pending abort, answered in full. -/
theorem perform_request (hrst : s.rst = false) (ha : s.abortPending = false) (hp : s.phase = .run .request) :
    perform okMove s = .next s.requested := by
  rw [okMove, perform_engine_run _ hrst hp, busStep, onAnswer_some, requestStep, atSafePoint_clear _ ha]
  rfl

theorem perform_readHi (b : Byte) (hrst : s.rst = false) (hp : s.phase = .run .readHi) :
    perform (byteMove b) s = .next (s.takeHi b) :=
  perform_engine_run _ hrst hp

theorem perform_readLo (w : Codeword) (hrst : s.rst = false) (hp : s.phase = .run .readLo)
    (hhi : s.hi = w.extractLsb' 8 8) :
    perform (byteMove (w.extractLsb' 0 8)) s = .next ((s.takeLo (w.extractLsb' 0 8)).answered w) := by
  have hw : s.response (w.extractLsb' 0 8) = w := by rw [State.response, hhi, append_bytes]
  rw [byteMove, perform_engine_run _ hrst hp, busStep, onAnswer_some, readLoStep_eq, hw]
  rfl

/-- One attempt, answered in full. -/
theorem performAll_attempt (w : Codeword) (hrst : s.rst = false) (ha : s.abortPending = false)
    (hp : s.phase = .run .request) : performAll (attemptMoves w) s = .next ((s.attempted w).answered w) := by
  rw [attemptMoves, performAll_cons _ (perform_request hrst ha hp),
    performAll_cons _ (perform_readHi (s := s.requested) _ hrst rfl), performAll_singleton,
    perform_readLo (s := s.requested.takeHi (w.extractLsb' 8 8)) w hrst rfl rfl]
  rfl

/-! ### The read loop -/

/-- The running command `s` has come to `t` by `n` attempts, with `calls` recorded meanwhile. -/
structure ReadProgress (s : State) (n : Nat) (calls : List BusCall) (t : State) : Prop where
  frame : RunFrame s t
  k : t.k = BitVec.ofNat 8 n
  attempts : t.status.attempts = BitVec.ofNat 8 n
  written : t.status.written = s.status.written
  busLog : t.busLog = calls ++ s.busLog

namespace ReadProgress

variable {n : Nat} {calls : List BusCall} {t : State}

/-- What keeps `k`, STATUS and the record keeps the progress. -/
theorem congr {u : State} (h : ReadProgress s n calls t) (f : RunFrame t u) (k : u.k = t.k)
    (status : u.status = t.status) (busLog : u.busLog = t.busLog) : ReadProgress s n calls u where
  frame := h.frame.trans f
  k := k.trans h.k
  attempts := status ▸ h.attempts
  written := status ▸ h.written
  busLog := busLog.trans h.busLog

/-- One more attempt. -/
theorem attempted (h : ReadProgress s n calls t) (hn : n < 255) (w : Codeword) :
    ReadProgress s (n + 1) (attemptCalls s.snap.dev w ++ calls) (t.attempted w) := by
  have hk : satSucc t.k = BitVec.ofNat 8 (n + 1) := by
    rw [h.k, satSucc, if_neg (by bv_omega), BitVec.ofNat_add]
    rfl
  exact {
    frame := h.frame.trans rfl
    k := hk
    attempts := hk
    written := h.written
    busLog := by rw [State.attempted, h.frame.snap, h.busLog, List.append_assoc] }

/-- The request that follows a wait of the read loop. -/
theorem request_after_wait (h : ReadProgress s n calls t) (hrst : s.rst = false) {g : Gap}
    (hg : g = .afterAddress ∨ g = .retry) :
    ∃ u, performAll (settleTicks s.snap.settle) (enterWait g t) = .next u ∧
      ReadProgress s n calls u ∧ u.phase = .run .request := by
  rw [← h.frame.snap]
  obtain ⟨c, hc⟩ := performAll_settle g (h.frame.rst.trans hrst)
  refine ⟨_, hc, h.congr ?_ ?_ ?_ ?_, ?_⟩ <;> rcases hg with rfl | rfl <;> rfl

/-- The failed attempts and their waits lead to the next request. -/
theorem retries (h : ReadProgress s n calls t) (hrst : s.rst = false) (ha : s.abortPending = false)
    (hp : t.phase = .run .request) {bad : List Codeword} (hbad : ∀ b ∈ bad, (decodeRead b).ok = false)
    (hmax : n + bad.length < s.snap.max.toNat) :
    ∃ u, performAll (retryMoves s.snap.settle bad) t = .next u ∧
      ReadProgress s (n + bad.length) (bad.reverse.flatMap (attemptCalls s.snap.dev) ++ calls) u ∧
      u.phase = .run .request := by
  induction bad generalizing n calls t with
  | nil => exact ⟨t, rfl, h, hp⟩
  | cons w ws ih =>
    obtain ⟨hw, hws⟩ := List.forall_mem_cons.mp hbad
    rw [List.length_cons] at hmax ⊢
    have hattempt := performAll_attempt w (h.frame.rst.trans hrst) (h.frame.abortPending.trans ha) hp
    have h' := h.attempted (by omega) w
    rw [answered_retry hw (by rw [h'.k, h'.frame.snap]; bv_omega)] at hattempt
    obtain ⟨u, hu, hprog, hpu⟩ := h'.request_after_wait hrst (.inr rfl)
    obtain ⟨v, hv, hprog', hpv⟩ := ih hprog hpu hws (by omega)
    refine ⟨v, ?_, ?_, hpv⟩
    · rw [retryMoves, List.append_assoc, performAll_append hattempt, performAll_append hu, hv]
    · rw [Nat.add_right_comm] at hprog'
      simpa [Nat.add_assoc] using hprog'

end ReadProgress

/-- A read phase: after the address transaction and the failed attempts the last response comes, with one attempt
counted for each. -/
theorem performAll_read {bad : List Codeword} (w : Codeword) (hrst : s.rst = false) (ha : s.abortPending = false)
    (hp : s.phase = .run (.beginTxn .address)) (hatt : s.status.attempts = 0)
    (hbad : ∀ b ∈ bad, (decodeRead b).ok = false) (hmax : bad.length < s.snap.max.toNat) :
    ∃ t, performAll (readMoves s.snap.settle bad w) s = .next (t.answered w) ∧
      ReadProgress s (bad.length + 1) (readCalls s.snap.dev (hdrRd s.snap.cfg s.snap.raddr) bad w) t := by
  have haddress := performAll_txn .address hrst ha hp
  have h₀ : ReadProgress s 0 (txnCalls s.snap.dev [hdrRd s.snap.cfg s.snap.raddr]) { s.sent .address with k := 0 } :=
    ⟨rfl, rfl, hatt, rfl, rfl⟩
  obtain ⟨u, hu, hprog, hpu⟩ := h₀.request_after_wait hrst (.inl rfl)
  obtain ⟨v, hv, hprog', hpv⟩ := hprog.retries hrst ha hpu hbad (by omega)
  have hlast := performAll_attempt w (hprog'.frame.rst.trans hrst) (hprog'.frame.abortPending.trans ha) hpv
  refine ⟨v.attempted w, ?_, ?_⟩
  · rw [readMoves, List.append_assoc, List.append_assoc]
    exact (performAll_append haddress).trans ((performAll_append hu).trans ((performAll_append hv).trans hlast))
  · rw [Nat.zero_add] at hprog'
    exact hprog'.attempted (by omega) w

end Sys2Proof.Machine
end

section
/-! A write phase that goes well, and the completion of a bus command (43_register_transfer R98, R108, R109). -/

namespace Sys2Proof.Machine

open Sys2Proof.Safety

variable {s : State}

/-! ### The write phase -/

/-- The header transaction and the wait after it. -/
theorem performAll_header (hrst : s.rst = false) (ha : s.abortPending = false)
    (hp : s.phase = .run (.beginTxn .header)) :
    ∃ n, performAll (txnMoves 1 ++ settleTicks s.snap.settle) s =
      .next { s.sent .header with wcnt := n, phase := .run (.beginTxn .codeword) } := by
  obtain ⟨n, hn⟩ := performAll_settle (s := s.sent .header) .betweenTxns hrst
  exact ⟨n, (performAll_append (performAll_txn .header hrst ha hp)).trans hn⟩

/-- The transaction that carries the codeword sets WRITTEN, and the wait after it ends the write phase. -/
theorem performAll_codeword {x : Txn} (hx : x = .whole ∨ x = .codeword) (hrst : s.rst = false)
    (ha : s.abortPending = false) (hp : s.phase = .run (.beginTxn x)) :
    ∃ n, performAll (txnMoves (txnLength x) ++ settleTicks s.snap.settle) s =
      .next (State.finishWith { s.sent x with status := { s.status with written := true }, wcnt := n } .none
        s.writeResults) := by
  have hafter : afterTxn x (s.sent x) =
      enterWait .postWrite { s.sent x with status := { s.status with written := true } } := by
    rcases hx with rfl | rfl <;> rfl
  obtain ⟨n, hn⟩ := performAll_settle (s := { s.sent x with status := { s.status with written := true } })
    .postWrite hrst
  rw [performAll_append (performAll_txn x hrst ha hp), hafter]
  exact ⟨n, hn⟩

/-- A write phase, in either shape, ends with its results, WRITTEN set and its transactions recorded. -/
theorem performAll_write (hrst : s.rst = false) (ha : s.abortPending = false)
    (hp : s.phase = .run (.beginTxn (firstWriteTxn s.snap.cfg))) :
    ∃ t, performAll (writeMoves s.snap.cfg s.snap.settle) s = .next (t.finishWith .none s.writeResults) ∧
      RunFrame s t ∧ t.status = { s.status with written := true } ∧
      t.busLog = writeCalls s.snap.cfg s.snap.dev s.writeEncoded ++ s.busLog := by
  rw [writeMoves, writeCalls]
  cases hc : s.snap.cfg.wrTwoTxn with
  | false =>
    rw [firstWriteTxn, hc] at hp
    obtain ⟨n, hn⟩ := performAll_codeword (.inl rfl) hrst ha hp
    exact ⟨_, hn, rfl, rfl, rfl⟩
  | true =>
    rw [firstWriteTxn, hc] at hp
    obtain ⟨m, hm⟩ := performAll_header hrst ha hp
    obtain ⟨n, hn⟩ := performAll_codeword
      (s := { s.sent .header with wcnt := m, phase := .run (.beginTxn .codeword) }) (.inr rfl) hrst ha rfl
    rw [if_pos rfl, if_pos rfl, List.append_assoc (txnMoves 1 ++ _), performAll_append hm, List.append_assoc]
    exact ⟨_, hn, rfl, rfl, rfl⟩

/-! ### Completion (10_state R37) -/

/-- Moves that lead to FINISH, and the completion step. -/
theorem performAll_finish {es : List Event} {t : State} {e : ErrCode} {res : Results} (hrst : t.rst = false)
    (h : performAll es s = .next (t.finishWith e res)) :
    performAll (es ++ [okMove]) s = .next (t.complete e (some res)) := by
  rw [performAll_append h, performAll_singleton]
  exact perform_engine_finish _ hrst rfl

/-- STATUS at the end of a command that ran from `s` to `t`. -/
theorem RunFrame.completed {t : State} (h : RunFrame s t) (e : ErrCode) :
    t.status.completed e = { s.status with
      busy := false, done := true, written := t.status.written, err := e, attempts := t.status.attempts } :=
  congrArg (fun u : State => u.status.completed e) h

end Sys2Proof.Machine
end

section
/-! The runs of RDFLD and WRFLD (42_masked_accessor R94, R95). -/

namespace Sys2Proof.Machine

open Sys2Proof.Safety

variable {s : State}

/-! ### RDFLD -/

theorem readDone_rdfld (h : s.snap.op = opRdfld) (rv : Val11) (w : Codeword) :
    readDone rv w s = s.finishWith .none (rdfldResults s.snap rv) := if_pos h

theorem readDone_wrfld (h : s.snap.op = opWrfld) (rv : Val11) (w : Codeword) :
    readDone rv w s = enterWait .beforeWrite { s with rvOld := rv, newv := wrfldMerged s.snap rv } := by
  rw [readDone, h]
  rfl

/-- The state in which the command `i`, just accepted, begins its read phase. -/
def State.startedRead (s : State) (i : Instr) : State :=
  ((s.beginAccept (encode i)).takeSnapshot i.op i.raddr).startCmd (.run (.beginTxn .address))

/-- RDFLD and WRFLD with a mask the strict check lets through begin their read phase. -/
theorem exec_startedRead {a : Addr7} {i : Instr} (hi : i = .rdfld a ∨ i = .wrfld a) (hb : s.status.busy = false)
    (hmask : s.cfg.strictMask = true → maskOk (s.opb.setWidth 11) = true) : exec i s = .next (s.startedRead i) := by
  rw [acceptanceStartsTheCommand s i (port_and_isMaskOp hi).1 hb fun _ => hmask]
  rcases hi with rfl | rfl <;> rfl

/-- STATUS at the end of a command that began with a read phase and ran to `t`. -/
theorem startedRead_completed {i : Instr} {t : State} (h : RunFrame (s.startedRead i) t) (hb : s.status.busy = false)
    (e : ErrCode) : t.status.completed e = { s.status with
      done := true, written := t.status.written, err := e, attempts := t.status.attempts } := by
  rw [h.completed e, ← hb]
  rfl

/-- Settles O24: RDFLD is accepted (`exec_startedRead`), its read phase ends with the valid response
(`performAll_read`), and the field is what `readDone_rdfld` finishes with. -/
theorem rdfldReturnsTheField : Obligations.RdfldReturnsTheField := by
  intro s a bad w hrst hb hmax hmask hbad hw m rv
  obtain ⟨t, hread, hprog⟩ := performAll_read (s := s.startedRead (.rdfld a)) w hrst rfl rfl rfl hbad hmax
  have hop : t.snap.op = opRdfld := congrArg Snapshot.op hprog.frame.snap
  rw [answered_valid hw, readDone_rdfld hop, hprog.frame.snap] at hread
  refine ⟨_, _, exec_startedRead (.inl rfl) hb hmask, rfl, performAll_finish (hprog.frame.rst.trans hrst) hread,
    rfl, rfl, ?_, rfl, rfl, hprog.busLog⟩
  rw [State.complete_status, startedRead_completed hprog.frame hb, hprog.written, hprog.attempts]
  rfl

/-! ### WRFLD -/

/-- `t` with the value read and the merged value taken, before the first transaction of the write phase. -/
def State.merged (t : State) (rv : Val11) (wcnt : BitVec 9) : State :=
  { t with
    rvOld := rv
    newv := wrfldMerged t.snap rv
    wcnt := wcnt
    phase := .run (.beginTxn (firstWriteTxn t.snap.cfg)) }

@[simp] theorem State.merged_snap (t : State) (rv : Val11) (n : BitVec 9) : (t.merged rv n).snap = t.snap := rfl
@[simp] theorem State.merged_busLog (t : State) (rv : Val11) (n : BitVec 9) : (t.merged rv n).busLog = t.busLog := rfl

/-- WRFLD writes the merged value. -/
theorem State.merged_writeValue {t : State} (h : t.snap.op = opWrfld) (rv : Val11) (n : BitVec 9) :
    (t.merged rv n).writeValue = wrfldMerged t.snap rv := if_pos h

/-- The results of WRFLD are the merged value with its codeword and the value read. -/
theorem State.merged_writeResults {t : State} (h : t.snap.op = opWrfld) (rv : Val11) (n : BitVec 9) :
    (t.merged rv n).writeResults = wrfldResults t.snap rv (wrfldMerged t.snap rv) := if_pos h

/-- After the valid response and a wait WRFLD begins its write phase. -/
theorem performAll_beforeWrite {w : Codeword} (hop : s.snap.op = opWrfld) (hrst : s.rst = false)
    (hw : (decodeRead w).ok = true) :
    ∃ n, performAll (settleTicks s.snap.settle) (s.answered w) = .next (s.merged (decodeRead w).rv n) := by
  rw [answered_valid hw, readDone_wrfld hop]
  exact performAll_settle (s := { s with rvOld := (decodeRead w).rv, newv := wrfldMerged s.snap (decodeRead w).rv })
    .beforeWrite hrst

/-- The whole run of WRFLD from its read phase to FINISH. -/
theorem performAll_wrfld {bad : List Codeword} {w : Codeword} (hop : s.snap.op = opWrfld) (hrst : s.rst = false)
    (ha : s.abortPending = false) (hp : s.phase = .run (.beginTxn .address)) (hatt : s.status.attempts = 0)
    (hbad : ∀ b ∈ bad, (decodeRead b).ok = false) (hw : (decodeRead w).ok = true)
    (hmax : bad.length < s.snap.max.toNat) :
    ∃ u, performAll (readMoves s.snap.settle bad w ++ settleTicks s.snap.settle ++
        writeMoves s.snap.cfg s.snap.settle) s =
        .next (u.finishWith .none (wrfldResults s.snap (decodeRead w).rv (wrfldMerged s.snap (decodeRead w).rv))) ∧
      RunFrame s u ∧ u.status.written = true ∧ u.status.attempts = BitVec.ofNat 8 (bad.length + 1) ∧
      u.busLog = writeCalls s.snap.cfg s.snap.dev
          (encodeWrite s.snap.cfg s.snap.raddr (wrfldMerged s.snap (decodeRead w).rv)) ++
        (readCalls s.snap.dev (hdrRd s.snap.cfg s.snap.raddr) bad w ++ s.busLog) := by
  obtain ⟨t, hread, hprog⟩ := performAll_read w hrst ha hp hatt hbad hmax
  have hsnap := hprog.frame.snap
  have hopt : t.snap.op = opWrfld := hsnap ▸ hop
  obtain ⟨n, hwait⟩ := performAll_beforeWrite hopt (hprog.frame.rst.trans hrst) hw
  obtain ⟨u, hwrite, hframe, hstatus, hlog⟩ := performAll_write (s := t.merged (decodeRead w).rv n)
    (hprog.frame.rst.trans hrst) (hprog.frame.abortPending.trans ha) rfl
  rw [hsnap] at hwait
  rw [State.merged_writeResults hopt, State.merged_snap, hsnap] at hwrite
  rw [State.writeEncoded, State.merged_writeValue hopt, State.merged_snap, State.merged_busLog, hsnap,
    hprog.busLog] at hlog
  refine ⟨u, ?_, hprog.frame.trans (.trans (t := t.merged _ n) rfl hframe), congrArg Status.written hstatus,
    (congrArg Status.attempts hstatus).trans hprog.attempts, hlog⟩
  rw [List.append_assoc, performAll_append hread, performAll_append hwait, hwrite]

/-- Settles O26: WRFLD is accepted (`exec_startedRead`) and runs to FINISH (`performAll_wrfld`). -/
theorem wrfldMergesAndWritesBack : Obligations.WrfldMergesAndWritesBack := by
  intro s a bad w hrst hb hmax hmask hbad hw m rv newv e
  obtain ⟨u, hrun, hframe, hwritten, hatt, hlog⟩ := performAll_wrfld (s := s.startedRead (.wrfld a))
    rfl hrst rfl rfl rfl hbad hw hmax
  refine ⟨_, _, exec_startedRead (.inr rfl) hb hmask, rfl, performAll_finish (hframe.rst.trans hrst) hrun,
    rfl, rfl, ?_, rfl, rfl, hlog⟩
  rw [State.complete_status, startedRead_completed hframe hb, hwritten, hatt]

end Sys2Proof.Machine
end

section
/-! The runs of RDREG and WRREG, and of a read that gives up (43_register_transfer R105, R111, R112). -/

namespace Sys2Proof.Machine

open Sys2Proof.Safety

variable {s : State}

/-! ### The read phase of RDREG, RDFLD and WRFLD -/

/-- Every command with a read phase begins it, when the strict check, which RDREG does not make, lets the mask
through. -/
theorem exec_reading {a : Addr7} {i : Instr} (hi : i = .rdreg a ∨ i = .rdfld a ∨ i = .wrfld a)
    (hb : s.status.busy = false)
    (hmask : i ≠ .rdreg a → s.cfg.strictMask = true → maskOk (s.opb.setWidth 11) = true) :
    exec i s = .next (s.startedRead i) := by
  rcases hi with rfl | hi
  · exact acceptanceStartsTheCommand s (.rdreg a) rfl hb (by simp [Instr.op])
  · exact exec_startedRead hi hb (hmask (by rcases hi with rfl | rfl <;> nofun))

theorem readDone_rdreg (h : s.snap.op = opRdreg) (rv : Val11) (w : Codeword) :
    readDone rv w s = s.finishWith .none (rdregResults rv w) := by
  rw [readDone, h]
  rfl

/-- Settles O23: RDREG is accepted (`exec_reading`), its read phase ends with the valid response (`performAll_read`),
and the value and the word are what `readDone_rdreg` finishes with. -/
theorem rdregReturnsTheFirstValidResponse : Obligations.RdregReturnsTheFirstValidResponse := by
  intro s a bad w hrst hb hmax hbad hw
  obtain ⟨t, hread, hprog⟩ := performAll_read (s := s.startedRead (.rdreg a)) w hrst rfl rfl rfl hbad hmax
  have hop : t.snap.op = opRdreg := congrArg Snapshot.op hprog.frame.snap
  rw [answered_valid hw, readDone_rdreg hop] at hread
  refine ⟨_, _, exec_reading (.inl rfl) hb (absurd rfl), rfl, performAll_finish (hprog.frame.rst.trans hrst) hread,
    rfl, rfl, ?_, rfl, rfl, hprog.busLog⟩
  rw [State.complete_status, startedRead_completed hprog.frame hb, hprog.written, hprog.attempts]
  rfl

/-- An invalid response at the bound ends the command (43_register_transfer R105). -/
theorem answered_exhausted {w : Codeword} (h : (decodeRead w).ok = false) (hk : s.snap.max ≤ s.k) :
    s.answered w = s.raise .deviceUnresponsive := by
  rw [State.answered, h, if_neg Bool.false_ne_true, if_pos hk]

/-- Settles O27: the command is accepted (`exec_reading`), `performAll_read` brings it to its last response with the
attempts at the bound, and there it gives up (`answered_exhausted`). -/
theorem readGivesUpAtTheBound : Obligations.ReadGivesUpAtTheBound := by
  intro s a i bad w hi hrst hb hmax hmask hbad hw
  have hcount : BitVec.ofNat 8 (bad.length + 1) = s.maxAttempts := by rw [hmax, BitVec.ofNat_toNat, BitVec.setWidth_eq]
  have hraddr : i.raddr = a := by rcases hi with rfl | rfl | rfl <;> rfl
  obtain ⟨t, hread, hprog⟩ := performAll_read (s := s.startedRead i) w hrst rfl rfl rfl hbad
    (show bad.length < s.maxAttempts.toNat by omega)
  have hk : t.snap.max ≤ t.k := by
    rw [hprog.k, hcount, hprog.frame.snap]
    exact BitVec.le_refl _
  have hend : perform okMove (t.raise .deviceUnresponsive) = .next (t.complete .deviceUnresponsive none) :=
    perform_engine_finish _ (hprog.frame.rst.trans hrst) rfl
  rw [answered_exhausted hw hk] at hread
  refine ⟨_, _, exec_reading hi hb hmask, (performAll_append hread).trans ((performAll_singleton _ _).trans hend),
    hprog.frame.res0, hprog.frame.res1, ?_, rfl, rfl, hraddr ▸ hprog.busLog⟩
  rw [State.complete_status, startedRead_completed hprog.frame hb, hprog.written, hprog.attempts, hcount]
  rfl

/-! ### The write phase of WRREG -/

/-- The state in which WRREG, just accepted, begins its write phase. -/
def State.startedWrite (s : State) (a : Addr7) : State :=
  ((s.beginAccept (encode (.wrreg a))).takeSnapshot opWrreg a).startCmd (.run (.beginTxn (firstWriteTxn s.cfg)))

theorem exec_startedWrite (a : Addr7) (hb : s.status.busy = false) :
    exec (.wrreg a) s = .next (s.startedWrite a) :=
  acceptanceStartsTheCommand s (.wrreg a) rfl hb (by simp [Instr.op])

/-- WRREG finishes with the encoded write of its operand. -/
theorem startedWrite_writeResults (a : Addr7) :
    (s.startedWrite a).writeResults = encodedResults (encodeWrite s.cfg a (s.opa.setWidth 11)) := rfl

/-- Settles O25: WRREG is accepted (`exec_startedWrite`), its write phase runs in its configured shape
(`performAll_write`), and its results are `startedWrite_writeResults`. -/
theorem wrregSendsTheCodeword : Obligations.WrregSendsTheCodeword := by
  intro s a hrst hb e
  obtain ⟨t, hwrite, hframe, hstatus, hlog⟩ := performAll_write (s := s.startedWrite a) hrst rfl rfl
  rw [startedWrite_writeResults, encodedResults_eq] at hwrite
  refine ⟨_, _, exec_startedWrite a hb, rfl, performAll_finish (hframe.rst.trans hrst) hwrite, rfl, rfl, ?_, rfl, rfl,
    hlog⟩
  rw [State.complete_status, hstatus]
  simp only [hb]
  rfl

end Sys2Proof.Machine
end

section
/-! Settle waits tick by tick, and the failures of the transport (43_register_transfer R100, R101, R106, R107). -/

namespace Sys2Proof.Machine

open Sys2Proof.Safety

variable {s : State}

/-! ### Settle waits -/

/-- Fewer ticks than a held wait has left count down and change nothing else. -/
theorem performAll_ticks_held {g : Gap} {n : Nat} (hrst : s.rst = false) (hp : s.phase = .run (.wait g))
    (hn : n < s.wcnt.toNat) :
    performAll (List.replicate n .tick) s = .next { s with wcnt := BitVec.ofNat 9 (s.wcnt.toNat - n) } := by
  induction n generalizing s with
  | zero => rw [Nat.sub_zero, BitVec.ofNat_toNat, BitVec.setWidth_eq]; rfl
  | succ n ih =>
    have htick : perform .tick s = .next { s with wcnt := s.wcnt - 1 } := by
      rw [perform, tickStep_wait hrst hp, tickWait_count g (by omega)]
    have hpred : (s.wcnt - 1).toNat = s.wcnt.toNat - 1 := by bv_omega
    rw [List.replicate_succ, performAll_cons _ htick,
      ih (s := { s with wcnt := s.wcnt - 1 }) hrst hp (by rw [hpred]; omega), hpred, Nat.sub_sub, Nat.add_comm 1 n]

/-- Settles O29: an entered wait has `L.settle + 1` ticks, which `performAll_ticks_held` counts down and the last of
which ends it (`performAll_ticks`). -/
theorem settleWaitLastsOneTickMore : Obligations.SettleWaitLastsOneTickMore := by
  intro s g hrst
  rcases enterWait_cases g s with ⟨h0, he⟩ | ⟨h0, he⟩
  · exact ⟨fun _ => he, fun h => absurd h0 h⟩
  have hw : (s.snap.settle.setWidth 9 + 1).toNat = s.snap.settle.toNat + 1 := by bv_omega
  rw [he]
  refine ⟨fun h => absurd h h0, fun _ => ⟨rfl, fun n hn => ?_, ?_⟩⟩
  · rw [performAll_ticks_held (s := { s with wcnt := _, phase := .run (.wait g) }) hrst rfl (by rw [hw]; omega), hw]
  · rw [performAll_ticks (s := { s with wcnt := _, phase := .run (.wait g) }) hrst rfl hw]
    exact congrArg _ (afterWait_of_phase g { s with wcnt := 0 } _)

/-! ### Failures of the transport -/

/-- An engine step inside RUN, `rst` deasserted. -/
theorem engineStep_run {p : Pos} (r : Option BusReply) (hrst : s.rst = false) (hp : s.phase = .run p) :
    engineStep r s = busStep p r s := by
  rw [engineStep_eq r hrst, hp]

/-- Settles O28: in each of the three steps the branch of the failed answer is taken. -/
theorem transportFailureIsABusError : Obligations.TransportFailureIsABusError := by
  intro s r hrst
  refine ⟨fun x i b hp hbyte hnack => ?_, fun x hp hfail => ?_, fun hp habort hshort => ?_⟩
  · rw [engineStep_run _ hrst hp, busStep, onAnswer_some, byteStep_eq r hbyte, hnack]
    rfl
  · rw [engineStep_run _ hrst hp, busStep, onAnswer_some, endStep_eq, if_pos (by simpa using hfail)]
    rfl
  · rw [engineStep_run _ hrst hp, busStep, onAnswer_some, requestStep, atSafePoint_clear _ habort,
      if_pos (show _ < readCount from hshort)]
    rfl

end Sys2Proof.Machine
end

section
/-! Which steps write WRITTEN and ATTEMPTS (43_register_transfer R104, R109). -/

namespace Sys2Proof.Machine

open Sys2Proof.Safety

variable {s t : State}

/-! ### Steps that write neither -/

/-- WRITTEN and ATTEMPTS stand, and no request is added to the record. -/
structure KeepsCounts (s t : State) : Prop where
  written : t.status.written = s.status.written
  attempts : t.status.attempts = s.status.attempts
  requests : requests t.busLog = requests s.busLog

namespace KeepsCounts

theorem trans {u : State} (h : KeepsCounts s t) (h' : KeepsCounts t u) : KeepsCounts s u where
  written := h'.written.trans h.written
  attempts := h'.attempts.trans h.attempts
  requests := h'.requests.trans h.requests

theorem enterWait (g : Gap) (s : State) : KeepsCounts s (enterWait g s) := by
  rw [enterWait_eq]
  exact ⟨rfl, rfl, rfl⟩

theorem readDone (rv : Val11) (w : Codeword) (s : State) : KeepsCounts s (readDone rv w s) := by
  unfold Machine.readDone
  split
  · exact ⟨rfl, rfl, rfl⟩
  split
  · exact .trans (t := { s with rvOld := rv, newv := wrfldMerged s.snap rv }) ⟨rfl, rfl, rfl⟩ (enterWait _ _)
  · exact ⟨rfl, rfl, rfl⟩

theorem beginStep (x : Txn) (s : State) : KeepsCounts s (beginStep x s) := by
  unfold Machine.beginStep atSafePoint
  split
  · split <;> exact ⟨rfl, rfl, rfl⟩
  · exact ⟨rfl, rfl, rfl⟩

theorem byteStep (x : Txn) (i : Nat) (r : BusReply) (s : State) : KeepsCounts s (byteStep x i r s) := by
  cases h : (txnBytes x s)[i]? with
  | none => simp only [Machine.byteStep, h]; exact ⟨rfl, rfl, rfl⟩
  | some b =>
    rw [byteStep_eq r h]
    split
    · split <;> exact ⟨rfl, rfl, rfl⟩
    · exact ⟨rfl, rfl, rfl⟩

theorem waitStep (g : Gap) (s : State) : KeepsCounts s (waitStep g s) := by
  unfold Machine.waitStep atSafePoint
  split
  · split <;> exact ⟨rfl, rfl, rfl⟩
  · exact ⟨rfl, rfl, rfl⟩

theorem readLoStep (r : BusReply) (s : State) : KeepsCounts s (readLoStep r s) := by
  have htaken : KeepsCounts s (s.takeLo r.byte) := ⟨rfl, rfl, rfl⟩
  rw [readLoStep_eq]
  split
  · exact htaken.trans (readDone _ _ _)
  split
  · exact ⟨rfl, rfl, rfl⟩
  · exact htaken.trans (enterWait _ _)

theorem onAnswer {act : BusReply → State → State} (r : Option BusReply) (h : ∀ a, KeepsCounts s (act a s)) :
    KeepsCounts s (onAnswer r act s) := by
  cases r with
  | none => exact ⟨rfl, rfl, rfl⟩
  | some a => exact h a

theorem pureStep (s : State) : KeepsCounts s (pureStep s) := by
  unfold Machine.pureStep
  split
  · exact ⟨rfl, rfl, rfl⟩
  split
  · exact ⟨rfl, rfl, rfl⟩
  split <;> exact ⟨rfl, rfl, rfl⟩

end KeepsCounts

/-- WRITTEN is set in a `BusEnd` step and ATTEMPTS in a `BusRequest` step; every other engine step keeps both. -/
theorem engineStep_keepsCounts_or (r : Option BusReply) (s : State) :
    KeepsCounts s (engineStep r s) ∨
    (∃ x a, r = some a ∧ s.phase = .run (.endTxn x) ∧ engineStep r s = endStep x a s) ∨
    ∃ a, r = some a ∧ s.phase = .run .request ∧ engineStep r s = requestStep a s := by
  cases hrst : s.rst with
  | true => rw [engineStep_rst r hrst]; exact .inl ⟨rfl, rfl, rfl⟩
  | false =>
    rw [engineStep_eq r hrst]
    cases hp : s.phase with
    | idle => exact .inl ⟨rfl, rfl, rfl⟩
    | exec => exact .inl (.pureStep s)
    | finish e res => exact .inl ⟨rfl, rfl, rfl⟩
    | run p =>
      cases p with
      | beginTxn x => exact .inl (.beginStep x s)
      | byte x i => exact .inl (.onAnswer r fun a => .byteStep x i a s)
      | wait g => exact .inl (.waitStep g s)
      | readHi => exact .inl (.onAnswer r fun _ => ⟨rfl, rfl, rfl⟩)
      | readLo => exact .inl (.onAnswer r fun a => .readLoStep a s)
      | endTxn x =>
        cases r with
        | none => exact .inl ⟨rfl, rfl, rfl⟩
        | some a => exact .inr (.inl ⟨x, a, rfl, rfl, rfl⟩)
      | request =>
        cases r with
        | none => exact .inl ⟨rfl, rfl, rfl⟩
        | some a => exact .inr (.inr ⟨a, rfl, rfl, rfl⟩)

theorem tickStep_status (s : State) : (tickStep s).status = s.status := by
  unfold tickStep
  split
  · rfl
  split
  · rw [tickWait_eq]
  · rfl

/-! ### What follows a transaction -/

/-- Only a transaction that carries the codeword changes STATUS (43_register_transfer R109). -/
theorem afterTxn_status (x : Txn) (s : State) : (afterTxn x s).status =
    if x = .whole ∨ x = .codeword then { s.status with written := true } else s.status := by
  cases x <;> rw [afterTxn, enterWait_eq] <;> rfl

theorem afterTxn_busLog (x : Txn) (s : State) : (afterTxn x s).busLog = s.busLog := by
  cases x <;> rw [afterTxn, enterWait_eq]

/-! ### WRITTEN -/

/-- STATUS after the `BusEnd` step: WRITTEN is set when the transaction carries the codeword and raised nothing. -/
theorem endStep_status (x : Txn) (r : BusReply) (s : State) : (endStep x r s).status =
    if r.ack = true ∧ s.terr = false ∧ (x = .whole ∨ x = .codeword) then { s.status with written := true }
    else s.status := by
  rw [endStep_eq]
  split
  · next hfail => rw [if_neg (by rintro ⟨hack, hterr, -⟩; simp [hack, hterr] at hfail)]; rfl
  · next hok =>
    obtain ⟨hterr, hack⟩ : s.terr = false ∧ r.ack = true := by simpa using hok
    simp [afterTxn_status, hterr, hack]

theorem requestStep_written (r : BusReply) (s : State) : (requestStep r s).status.written = s.status.written := by
  unfold requestStep atSafePoint
  split
  · rfl
  split <;> rfl

/-- No host access sets WRITTEN. -/
theorem HostEffect.written {a : HostAccess} (h : HostEffect s a t) (hs : s.status.written = false) :
    t.status.written = false := by
  cases h with
  | illegal v idle => rfl
  | accepted v i => rcases acceptCmd_cases i s with ⟨-, h⟩ | ⟨-, h⟩ <;> rw [h] <;> rfl
  | abort v => rw [requestAbort_frame]; exact hs
  | _ => exact hs

/-- An engine step that sets WRITTEN is the answered `BusEnd` step of the codeword's transaction. -/
theorem engineStep_sets_written {r : Option BusReply} (hs : s.status.written = false)
    (ht : (engineStep r s).status.written = true) :
    ∃ a, r = some a ∧ a.ack = true ∧ s.terr = false ∧
      (s.phase = .run (.endTxn .whole) ∨ s.phase = .run (.endTxn .codeword)) := by
  rcases engineStep_keepsCounts_or r s with h | ⟨x, a, rfl, hp, h⟩ | ⟨a, rfl, -, h⟩
  · simp [h.written, hs] at ht
  · rw [h, endStep_status] at ht
    split at ht
    · next hset =>
      obtain ⟨hack, hterr, rfl | rfl⟩ := hset
      · exact ⟨a, rfl, hack, hterr, .inl hp⟩
      · exact ⟨a, rfl, hack, hterr, .inr hp⟩
    · simp [hs] at ht
  · simp [h, requestStep_written, hs] at ht

/-- Settles O39: `endStep_status`, and no other move sets WRITTEN. -/
theorem writtenIsSetOnlyByTheCodewordEnd : Obligations.WrittenIsSetOnlyByTheCodewordEnd := by
  refine ⟨fun s r hrst hp hterr hack => ?_, fun s t e hp hs ht => ?_⟩
  · obtain ⟨x, hx, hp⟩ : ∃ x, (x = .whole ∨ x = .codeword) ∧ s.phase = .run (.endTxn x) := by
      rcases hp with hp | hp
      · exact ⟨_, .inl rfl, hp⟩
      · exact ⟨_, .inr rfl, hp⟩
    rw [engineStep_run _ hrst hp, busStep, onAnswer_some, endStep_status, if_pos ⟨hack, hterr, hx⟩]
  · cases e with
    | host a => simp [(hostStep_effect hp).2.written hs] at ht
    | engine r =>
      cases hp
      obtain ⟨a, rfl, h⟩ := engineStep_sets_written hs ht
      exact ⟨a, rfl, h⟩
    | tick => cases hp; simp [tickStep_status, hs] at ht
    | reset => cases hp; exact absurd ht Bool.false_ne_true
    | rst level =>
      cases level with
      | true => cases hp; exact absurd ht Bool.false_ne_true
      | false => cases hp; simp [hs] at ht

/-! ### ATTEMPTS -/

/-- The `BusEnd` step keeps ATTEMPTS and adds no request. -/
theorem endStep_attempts (x : Txn) (r : BusReply) (s : State) :
    (endStep x r s).status.attempts = s.status.attempts ∧ requests (endStep x r s).busLog = requests s.busLog := by
  constructor
  · rw [endStep_status]
    split <;> rfl
  · rw [endStep_eq]
    split
    · rfl
    · rw [afterTxn_busLog]
      rfl

theorem satSucc_toNat {k : BitVec 8} (h : k ≠ 255) : (satSucc k).toNat = k.toNat + 1 := by
  rw [satSucc, if_neg h]
  bv_omega

/-- Below 255 the `BusRequest` step counts the request it issues, and a pending abort in its place counts none. -/
theorem requestStep_attempts (r : BusReply) (hatt : s.status.attempts = s.k) (hk : s.k ≠ 255) :
    (requestStep r s).status.attempts.toNat + requests s.busLog =
      s.status.attempts.toNat + requests (requestStep r s).busLog := by
  have hcount : (satSucc s.k).toNat + requests s.busLog = s.status.attempts.toNat + (requests s.busLog + 1) := by
    rw [satSucc_toNat hk, hatt]
    omega
  unfold requestStep atSafePoint
  split
  · rfl
  split <;> exact hcount

/-- Settles O45: the invariant has ATTEMPTS at `k` and `k` below the bound before a request
(`requestStep_attempts`), and it bounds ATTEMPTS after the step. -/
theorem attemptsCountRequests : Obligations.AttemptsCountRequests := by
  intro s r h hb t
  constructor
  · rcases engineStep_keepsCounts_or r s with hkeep | ⟨x, a, -, -, hstep⟩ | ⟨a, -, hp, hstep⟩
    · rw [hkeep.attempts, hkeep.requests]
    · obtain ⟨hatt, hreq⟩ := endStep_attempts x a s
      rw [show t = endStep x a s from hstep, hatt, hreq]
    · obtain ⟨hatt, hk⟩ := attempts_below_iff.mp (h.attempts_ok _ hp)
      rw [show t = requestStep a s from hstep]
      exact requestStep_attempts a hatt (by bv_omega)
  · rcases engineStep_cases r s with hframe | ⟨e, res, -, -, hstep⟩
    · rw [← hframe.snap]
      exact (h.engineStep r).attempts_le (hframe.busy.trans hb)
    · rw [show t = s.complete e res from hstep]
      exact h.attempts_le hb

end Sys2Proof.Machine
end

section
/-! The ABORT request, the safe points that take it, and the steps that do not see it (44_control R113, R114; 10_state
R39). -/

namespace Sys2Proof.Machine

open Sys2Proof.Safety

variable {s : State}

/-! ### The request (44_control R113) -/

theorem isBusOp_iff (op : BitVec 4) : isBusOp op = true ↔ op = 4 ∨ op = 5 ∨ op = 6 ∨ op = 7 := by
  simp [isBusOp, opRdreg, opWrreg, opRdfld, opWrfld, or_assoc]

/-- ABORT sets `abort_pending` when a bus command runs, and else does nothing. -/
theorem exec_abort (s : State) :
    exec .abort s = .next (if s.status.busy && isBusOp s.snap.op then { s with abortPending := true } else s) := rfl

/-- A CTRL write is ABORT by its bit 0 (30_encoding R65). -/
theorem hostStep_ctrl (v : Word) (hrst : s.rst = false) :
    hostStep (portWrite .ctrl v) s = if v.getLsbD 0 then exec .abort s else .next s := by
  rw [portWrite, hostStep_write _ _ hrst rfl]
  change writeCtrl v s = _
  rw [writeCtrl_eq]
  split <;> rfl

/-- Settles O30: `exec_abort`, whose test is BUSY and one of the four bus commands, and `hostStep_ctrl`. -/
theorem abortRequestsWhileABusCommandRuns : Obligations.AbortRequestsWhileABusCommandRuns := by
  intro s
  simp only [← isBusOp_iff]
  refine ⟨fun hb hop => ?_, fun h => ?_, fun v hrst => hostStep_ctrl v hrst⟩
  · rw [exec_abort, if_pos (by simp [hb, hop])]
  · rw [exec_abort, if_neg]
    rcases h with hb | hop
    · simp [hb]
    · simp [hop]

/-! ### Taking the abort (44_control R114) -/

/-- A safe point stands before a transaction's `BusBegin` exactly where `isSafePoint` has one. -/
theorem isSafePoint_beginTxn (x : Txn) : isSafePoint (.beginTxn x) = x.safePoint := by
  cases x <;> rfl

/-- At a safe point a pending abort is raised and nothing else is done; in place of a request, only once the answer has
come (log 24). -/
theorem busStep_takes_abort {p : Pos} {r : Option BusReply} (ha : s.abortPending = true) (hsafe : isSafePoint p = true)
    (hr : p = .request → r ≠ none) : busStep p r s = s.raise .aborted := by
  cases p with
  | beginTxn x =>
    rw [isSafePoint_beginTxn] at hsafe
    rw [busStep, beginStep, if_pos hsafe, atSafePoint_pending _ ha]
  | wait g =>
    rw [isSafePoint_wait] at hsafe
    rw [busStep, waitStep, if_pos hsafe, atSafePoint_pending _ ha]
  | request =>
    obtain ⟨a, rfl⟩ := Option.ne_none_iff_exists'.mp (hr rfl)
    exact atSafePoint_pending _ ha
  | byte x i => cases hsafe
  | endTxn x => cases hsafe
  | readHi => cases hsafe
  | readLo => cases hsafe

/-! ### The steps that raise no ABORTED -/

theorem afterWait_raises_nothing (g : Gap) (s : State) (e : ErrCode) : (afterWait g s).phase ≠ .finish e none := by
  cases g <;> simp [afterWait]

theorem enterWait_raises_nothing (g : Gap) (s : State) (e : ErrCode) : (enterWait g s).phase ≠ .finish e none := by
  rcases enterWait_cases g s with ⟨-, h⟩ | ⟨-, h⟩ <;> rw [h]
  · exact afterWait_raises_nothing g s e
  · exact Phase.noConfusion

theorem afterTxn_raises_nothing (x : Txn) (s : State) (e : ErrCode) : (afterTxn x s).phase ≠ .finish e none := by
  cases x <;> exact enterWait_raises_nothing _ _ e

theorem readDone_raises_nothing (rv : Val11) (w : Codeword) (s : State) (e : ErrCode) :
    (readDone rv w s).phase ≠ .finish e none := by
  unfold readDone
  split
  · simp
  split
  · exact enterWait_raises_nothing _ _ e
  · simp

theorem pureStep_raises_nothing (hp : s.phase = .exec) (e : ErrCode) : (pureStep s).phase ≠ .finish e none := by
  unfold pureStep
  split
  · simp [crcStep]
  split
  · simp [encStep]
  split
  · simp [decStep]
  · simp [hp]

/-- A `BusWrite` step stays inside its transaction. -/
theorem byteStep_phase (x : Txn) (i : Nat) (r : BusReply) (hp : s.phase = .run (.byte x i)) :
    (∃ j, (byteStep x i r s).phase = .run (.byte x j)) ∨ (byteStep x i r s).phase = .run (.endTxn x) := by
  cases h : (txnBytes x s)[i]? with
  | none => exact .inl ⟨i, by simp only [byteStep, h, hp]⟩
  | some b =>
    rw [byteStep_eq r h]
    split
    · split
      · exact .inl ⟨i + 1, rfl⟩
      · exact .inr rfl
    · exact .inr rfl

theorem endStep_not_aborted (x : Txn) (r : BusReply) (s : State) : (endStep x r s).phase ≠ .finish .aborted none := by
  rw [endStep_eq]
  split
  · simp
  · exact afterTxn_raises_nothing x _ _

theorem readLoStep_not_aborted (r : BusReply) (s : State) : (readLoStep r s).phase ≠ .finish .aborted none := by
  rw [readLoStep_eq]
  split
  · exact readDone_raises_nothing _ _ _ _
  split
  · simp
  · exact enterWait_raises_nothing _ _ _

/-- A safe point whose action raises no ABORTED raises it only for a pending abort. -/
theorem pending_of_atSafePoint {act : State} (h : (atSafePoint s act).phase = .finish .aborted none)
    (hact : act.phase ≠ .finish .aborted none) : s.abortPending = true := by
  by_contra ha
  rw [atSafePoint_clear _ (by simpa using ha)] at h
  exact hact h

/-- An engine step inside RUN raises ABORTED only for a pending abort, at a safe point, and in place of a request only
with the answer. -/
theorem busStep_aborted {p : Pos} {r : Option BusReply} (hp : s.phase = .run p)
    (h : (busStep p r s).phase = .finish .aborted none) :
    s.abortPending = true ∧ isSafePoint p = true ∧ (p = .request → r ≠ none) := by
  have hstays : s.phase ≠ .finish .aborted none := by simp [hp]
  cases p with
  | beginTxn x =>
    rw [isSafePoint_beginTxn]
    rw [busStep, beginStep] at h
    split at h
    · next hsafe => exact ⟨pending_of_atSafePoint h Phase.noConfusion, hsafe, by simp⟩
    · cases h
  | wait g =>
    rw [isSafePoint_wait]
    rw [busStep, waitStep] at h
    split at h
    · next hsafe => exact ⟨pending_of_atSafePoint h hstays, hsafe, by simp⟩
    · exact absurd h hstays
  | request =>
    cases r with
    | none => exact absurd h hstays
    | some a => exact ⟨pending_of_atSafePoint h (by split <;> simp), rfl, by simp⟩
  | byte x i =>
    cases r with
    | none => exact absurd h hstays
    | some a => rcases byteStep_phase x i a hp with ⟨j, hj⟩ | hj <;> cases hj.symm.trans h
  | endTxn x =>
    cases r with
    | none => exact absurd h hstays
    | some a => exact absurd h (endStep_not_aborted x a s)
  | readHi =>
    cases r with
    | none => exact absurd h hstays
    | some a => cases h
  | readLo =>
    cases r with
    | none => exact absurd h hstays
    | some a => exact absurd h (readLoStep_not_aborted a s)

/-- Settles O31: a pending abort is taken at a safe point (`busStep_takes_abort`) and nowhere else
(`busStep_aborted`). -/
theorem abortIsTakenExactlyAtSafePoints : Obligations.AbortIsTakenExactlyAtSafePoints := by
  intro s p r hrst hp
  rw [engineStep_run r hrst hp]
  refine ⟨⟨busStep_aborted hp, fun ⟨ha, hsafe, hr⟩ => ?_⟩, busStep_takes_abort⟩
  rw [busStep_takes_abort ha hsafe hr, State.raise_phase]

end Sys2Proof.Machine
end

section
/-! Outside the safe points and the completion step no step of the engine reads `abort_pending`, and no tick does
(44_control R114). -/

namespace Sys2Proof.Machine

open Sys2Proof.Safety

/-- `s` with this value in `abort_pending`. -/
def State.withAbort (s : State) (b : Bool) : State := { s with abortPending := b }

section
variable (s : State) (b : Bool)

/-- A choice that does not read `abort_pending` commutes with storing into it when its branches do. -/
theorem ite_withAbort {c : Prop} [Decidable c] {x x' y y' : State} (hx : x' = x.withAbort b)
    (hy : y' = y.withAbort b) : (if c then x' else y') = (if c then x else y).withAbort b := by
  rw [hx, hy, apply_ite (State.withAbort · b)]

theorem afterWait_withAbort (g : Gap) : afterWait g (s.withAbort b) = (afterWait g s).withAbort b := by
  cases g <;> rfl

theorem enterWait_withAbort (g : Gap) : enterWait g (s.withAbort b) = (enterWait g s).withAbort b :=
  ite_withAbort b (afterWait_withAbort s b g) rfl

theorem tickWait_withAbort (g : Gap) : tickWait g (s.withAbort b) = (tickWait g s).withAbort b :=
  ite_withAbort b (afterWait_withAbort { s with wcnt := 0 } b g) rfl

theorem afterTxn_withAbort (x : Txn) : afterTxn x (s.withAbort b) = (afterTxn x s).withAbort b := by
  cases x with
  | address => exact enterWait_withAbort { s with k := 0 } b _
  | header => exact enterWait_withAbort s b _
  | whole => exact enterWait_withAbort { s with status := { s.status with written := true } } b _
  | codeword => exact enterWait_withAbort { s with status := { s.status with written := true } } b _

theorem readDone_withAbort (rv : Val11) (w : Codeword) :
    readDone rv w (s.withAbort b) = (readDone rv w s).withAbort b :=
  ite_withAbort b rfl (ite_withAbort b
    (enterWait_withAbort { s with rvOld := rv, newv := wrfldMerged s.snap rv } b .beforeWrite) rfl)

theorem byteStep_withAbort (x : Txn) (i : Nat) (r : BusReply) :
    byteStep x i r (s.withAbort b) = (byteStep x i r s).withAbort b := by
  have htxn : txnBytes x (s.withAbort b) = txnBytes x s := rfl
  cases h : (txnBytes x s)[i]? with
  | none => simp only [byteStep, htxn, h]
  | some _ =>
    rw [byteStep_eq r h, byteStep_eq (s := s.withAbort b) r h]
    exact ite_withAbort b (ite_withAbort b rfl rfl) rfl

theorem endStep_withAbort (x : Txn) (r : BusReply) : endStep x r (s.withAbort b) = (endStep x r s).withAbort b :=
  ite_withAbort b rfl (afterTxn_withAbort (s.logBus (.ended r.ack)) b x)

theorem readLoStep_withAbort (r : BusReply) : readLoStep r (s.withAbort b) = (readLoStep r s).withAbort b := by
  rw [readLoStep_eq, readLoStep_eq]
  exact ite_withAbort b (readDone_withAbort (s.takeLo r.byte) b _ _)
    (ite_withAbort b rfl (enterWait_withAbort (s.takeLo r.byte) b .retry))

theorem pureStep_withAbort : pureStep (s.withAbort b) = (pureStep s).withAbort b :=
  ite_withAbort b rfl (ite_withAbort b rfl (ite_withAbort b rfl rfl))

theorem onAnswer_withAbort {act : BusReply → State → State} (r : Option BusReply)
    (h : ∀ a, act a (s.withAbort b) = (act a s).withAbort b) :
    onAnswer r act (s.withAbort b) = (onAnswer r act s).withAbort b := by
  cases r with
  | none => rfl
  | some a => exact h a

/-- The step of a bus command where no safe point stands. -/
theorem busStep_withAbort {p : Pos} (hp : isSafePoint p = false) (r : Option BusReply) :
    busStep p r (s.withAbort b) = (busStep p r s).withAbort b := by
  cases p with
  | beginTxn x =>
    have hx : ¬ x.safePoint = true := by simpa [isSafePoint_beginTxn] using hp
    rw [busStep, busStep, beginStep, beginStep, if_neg hx, if_neg hx]
    rfl
  | wait g =>
    have hg : ¬ g.abortable = true := by simpa [isSafePoint_wait] using hp
    rw [busStep, busStep, waitStep, waitStep, if_neg hg, if_neg hg]
  | request => cases hp
  | byte x i => exact onAnswer_withAbort s b r fun a => byteStep_withAbort s b x i a
  | endTxn x => exact onAnswer_withAbort s b r fun a => endStep_withAbort s b x a
  | readHi => exact onAnswer_withAbort s b r fun _ => rfl
  | readLo => exact onAnswer_withAbort s b r fun a => readLoStep_withAbort s b a

theorem engineStep_withAbort (r : Option BusReply) (hrun : ∀ p, s.phase = .run p → isSafePoint p = false)
    (hfinish : ∀ e res, s.phase ≠ .finish e res) : engineStep r (s.withAbort b) = (engineStep r s).withAbort b := by
  refine ite_withAbort b rfl ?_
  have hphase : (s.withAbort b).phase = s.phase := rfl
  rw [hphase]
  cases hp : s.phase with
  | idle => rfl
  | exec => exact pureStep_withAbort s b
  | run p => exact busStep_withAbort s b (hrun p hp) r
  | finish e res => exact absurd hp (hfinish e res)

theorem tickStep_withAbort : tickStep (s.withAbort b) = (tickStep s).withAbort b := by
  refine ite_withAbort b rfl ?_
  have hp : (s.withAbort b).phase = s.phase := rfl
  rw [hp]
  split
  · exact tickWait_withAbort s b _
  · rfl

end

/-- Settles O32: engine steps outside safe points and completion, and ticks, commute with storing into
`abort_pending`. -/
theorem pendingAbortIsInvisibleElsewhere : Obligations.PendingAbortIsInvisibleElsewhere :=
  fun s r b => ⟨engineStep_withAbort s b r, tickStep_withAbort s b⟩

end Sys2Proof.Machine
end

section
/-! An abort is never taken once the command's write has begun (44_control R113 to R115). -/

namespace Sys2Proof.Machine

open Sys2Proof.Safety

variable {s t : State}

/-! ### Raising ABORTED -/

/-- At a safe point the write has not begun, WRITTEN does not stand and no transaction is open. -/
theorem before_write_of_isSafePoint {p : Pos} (h : isSafePoint p = true) :
    writeBegun (.run p) = false ∧ mayBeWritten (.run p) = false ∧ openAt (.run p) = false := by
  cases p with
  | beginTxn x => revert h; cases x <;> decide
  | wait g => revert h; cases g <;> decide
  | request => exact ⟨rfl, rfl, rfl⟩
  | byte x i => cases h
  | endTxn x => cases h
  | readHi => cases h
  | readLo => cases h

/-- A running command that an engine step ends with ABORTED stands inside RUN. -/
theorem run_of_aborted {r : Option BusReply} (h : Inv s) (hb : s.status.busy = true)
    (hfinish : ∀ e res, s.phase ≠ .finish e res) (haborted : (engineStep r s).phase = .finish .aborted none) :
    ∃ p, s.phase = .run p := by
  have hidle : s.phase ≠ .idle := h.busy_iff.mp hb
  cases hp : s.phase with
  | idle => exact absurd hp hidle
  | exec =>
    rw [engineStep_eq r (h.running hidle).rst, hp] at haborted
    exact absurd haborted (pureStep_raises_nothing hp _)
  | run p => exact ⟨p, rfl⟩
  | finish e res => exact absurd hp (hfinish e res)

/-! ### The write once begun -/

/-- The write has begun and goes on, or the command has ended with another code than ABORTED. -/
def WriteGoesOn (p : Phase) : Prop := writeBegun p = true ∨ ∃ err res, p = .finish err res ∧ err ≠ .aborted

theorem afterWait_writeGoesOn {g : Gap} (h : writeBegun (.run (.wait g)) = true) (s : State) :
    WriteGoesOn (afterWait g s).phase := by
  cases g with
  | afterAddress => cases h
  | retry => cases h
  | beforeWrite => cases h
  | betweenTxns => exact .inl rfl
  | postWrite => exact .inr ⟨.none, _, rfl, by simp⟩

theorem enterWait_writeGoesOn {g : Gap} (h : writeBegun (.run (.wait g)) = true) (s : State) :
    WriteGoesOn (enterWait g s).phase := by
  rcases enterWait_cases g s with ⟨-, he⟩ | ⟨-, he⟩ <;> rw [he]
  · exact afterWait_writeGoesOn h s
  · exact .inl h

theorem tickWait_writeGoesOn {g : Gap} (hp : s.phase = .run (.wait g)) (h : writeBegun s.phase = true) :
    WriteGoesOn (tickWait g s).phase := by
  unfold tickWait
  split
  · exact afterWait_writeGoesOn (hp ▸ h) _
  · exact .inl h

theorem tickStep_writeGoesOn (h : writeBegun s.phase = true) : WriteGoesOn (tickStep s).phase := by
  unfold tickStep
  split
  · exact .inl h
  split
  · next hp => exact tickWait_writeGoesOn hp h
  · exact .inl h

theorem afterTxn_writeGoesOn {x : Txn} (hx : x ≠ .address) (s : State) : WriteGoesOn (afterTxn x s).phase := by
  cases x with
  | address => exact absurd rfl hx
  | header => exact enterWait_writeGoesOn (g := .betweenTxns) rfl _
  | whole => exact enterWait_writeGoesOn (g := .postWrite) rfl _
  | codeword => exact enterWait_writeGoesOn (g := .postWrite) rfl _

theorem endStep_writeGoesOn {x : Txn} (hx : x ≠ .address) (r : BusReply) (s : State) :
    WriteGoesOn (endStep x r s).phase := by
  rw [endStep_eq]
  split
  · exact .inr ⟨.busError, none, rfl, by simp⟩
  · exact afterTxn_writeGoesOn hx _

theorem onAnswer_writeGoesOn {act : BusReply → State → State} (r : Option BusReply) (h : writeBegun s.phase = true)
    (hact : ∀ a, WriteGoesOn (act a s).phase) : WriteGoesOn (onAnswer r act s).phase := by
  cases r with
  | none => exact .inl h
  | some a => exact hact a

/-- An engine step at a position of a write that has begun. -/
theorem busStep_writeGoesOn {p : Pos} (r : Option BusReply) (hp : s.phase = .run p) (h : writeBegun s.phase = true) :
    WriteGoesOn (busStep p r s).phase := by
  have hbegun : writeBegun (.run p) = true := hp ▸ h
  cases p with
  | beginTxn x =>
    obtain rfl : x = .codeword := by simpa [writeBegun] using hbegun
    exact .inl rfl
  | byte x i =>
    refine onAnswer_writeGoesOn r h fun a => .inl ?_
    rcases byteStep_phase x i a hp with ⟨j, hj⟩ | hj <;> rw [hj] <;> exact hbegun
  | endTxn x =>
    have hx : x ≠ .address := by simpa [writeBegun] using hbegun
    exact onAnswer_writeGoesOn r h fun a => endStep_writeGoesOn hx a s
  | wait g =>
    have hg : ¬ g.abortable = true := by revert hbegun; cases g <;> decide
    rw [busStep, waitStep, if_neg hg]
    exact .inl h
  | request => cases hbegun
  | readHi => cases hbegun
  | readLo => cases hbegun

theorem engineStep_writeGoesOn (r : Option BusReply) (h : writeBegun s.phase = true) :
    WriteGoesOn (engineStep r s).phase := by
  cases hrst : s.rst with
  | true => rw [engineStep_rst r hrst]; exact .inl h
  | false =>
    cases hp : s.phase with
    | run p => rw [engineStep_run r hrst hp]; exact busStep_writeGoesOn r hp h
    | idle => rw [hp] at h; cases h
    | exec => rw [hp] at h; cases h
    | finish e res => rw [hp] at h; cases h

/-- A `BusBegin` step raises a pending abort or issues its primitive. -/
theorem beginStep_cases (x : Txn) (s : State) :
    beginStep x s = s.raise .aborted ∨
    beginStep x s = { s.logBus (.begun s.snap.dev) with terr := false, phase := .run (.byte x 0) } := by
  unfold beginStep atSafePoint
  split
  · split
    · exact .inl rfl
    · exact .inr rfl
  · exact .inr rfl

/-- The `BusBegin` step of a write transaction, if it issues the primitive, begins the write. -/
theorem engineStep_begins_write {x : Txn} {r : Option BusReply} (hp : s.phase = .run (.beginTxn x))
    (hx : x ≠ .address) (hlog : (engineStep r s).busLog ≠ s.busLog) : writeBegun (engineStep r s).phase = true := by
  cases hrst : s.rst with
  | true => rw [engineStep_rst r hrst] at hlog; exact absurd rfl hlog
  | false =>
    have hbegun : writeBegun (.run (.byte x 0)) = true := by simpa [writeBegun] using hx
    rw [engineStep_run r hrst hp, busStep] at hlog ⊢
    rcases beginStep_cases x s with hstep | hstep <;> rw [hstep] at hlog ⊢
    · exact absurd rfl hlog
    · exact hbegun

/-- Settles O46: ABORTED is raised at a safe point alone (`abortIsTakenExactlyAtSafePoints`), where the invariant has no
write under way (`before_write_of_isSafePoint`); a `BusBegin` of a write begins it (`engineStep_begins_write`), and each
agent's move keeps it going until its end (`WriteGoesOn`). -/
theorem abortNeverCutsAWrite : Obligations.AbortNeverCutsAWrite := by
  refine ⟨fun s r h hb hfinish haborted => ?_, fun s r x => engineStep_begins_write,
    fun s t e h hbegun hreset hrst hperf => ?_⟩
  · obtain ⟨p, hp⟩ := run_of_aborted h hb hfinish haborted
    have hrst : s.rst = false := (h.running (by simp [hp])).rst
    obtain ⟨htaken, hstep⟩ := abortIsTakenExactlyAtSafePoints s p r hrst hp
    obtain ⟨ha, hsafe, hr⟩ := htaken.mp haborted
    obtain ⟨hbegun, hmay, hopen⟩ := before_write_of_isSafePoint hsafe
    rw [hstep ha hsafe hr, hp]
    exact ⟨hbegun, (h.standsAt hp).unwritten hmay, (h.standsAt hp).bus_open.trans hopen, rfl⟩
  · cases e with
    | host a =>
      have hb : s.status.busy = true := h.busy_iff.mpr (by rintro hp; simp [hp, writeBegun] at hbegun)
      obtain ⟨hphase, -⟩ := (hostStep_effect hperf).2.of_busy hb
      exact .inl (hphase ▸ hbegun)
    | engine r => cases hperf; exact engineStep_writeGoesOn r hbegun
    | tick => cases hperf; exact tickStep_writeGoesOn hbegun
    | reset => exact absurd rfl hreset
    | rst level => exact absurd rfl (hrst level)

end Sys2Proof.Machine
end

section
/-! Each move that gets a running command on brings its end nearer, and no other move takes it further away
(60_exceptions R129). -/

namespace Sys2Proof.Machine

open Sys2Proof.Safety

variable {s t : State}

/-! ### The bound on the moves left -/

/-- What the bound leaves after a wait, `k` attempts made. -/
def gapCost (l : Snapshot) (k : Nat) : Gap → Nat
  | .afterAddress => requestCost l k
  | .retry        => requestCost l k
  | .beforeWrite  => writeCost l
  | .betweenTxns  => waitCost l + 5
  | .postWrite    => 1

/-- The wait that follows a transaction (43_register_transfer R102, R108). -/
def Txn.gap : Txn → Gap
  | .address  => .afterAddress
  | .whole    => .postWrite
  | .header   => .betweenTxns
  | .codeword => .postWrite

theorem gapCost_pos (l : Snapshot) (k : Nat) (g : Gap) : 0 < gapCost l k g := by
  cases g <;> simp [gapCost, requestCost, writeCost]

/-- Inside a wait: the ticks left, and what comes after. -/
theorem movesLeft_wait {g : Gap} (hp : s.phase = .run (.wait g)) :
    movesLeft s = gapCost s.snap s.k.toNat g + s.wcnt.toNat := by
  cases g <;> simp only [movesLeft, hp, gapCost]
  case postWrite => omega

/-- At the end of a transaction: its `BusEnd`, the wait after it, and what comes after that. -/
theorem movesLeft_endTxn {x : Txn} (hp : s.phase = .run (.endTxn x)) :
    movesLeft s = gapCost s.snap 0 x.gap + waitCost s.snap := by
  cases x <;> simp only [movesLeft, hp, gapCost, Txn.gap] <;> omega

/-- The end of a transaction is nearer than its bytes. -/
theorem movesLeft_endTxn_lt_byte {x : Txn} {i : Nat} (hs : s.phase = .run (.byte x i)) (ht : t.phase = .run (.endTxn x))
    (snap : t.snap = s.snap) : movesLeft t < movesLeft s := by
  cases x <;> simp only [movesLeft, hs, ht, snap] <;> omega

/-- Each byte of a transaction is nearer than the byte before. -/
theorem movesLeft_byte_succ_lt {x : Txn} {i : Nat} (hs : s.phase = .run (.byte x i))
    (ht : t.phase = .run (.byte x (i + 1))) (snap : t.snap = s.snap) (hi : i + 1 < txnLength x) :
    movesLeft t < movesLeft s := by
  cases x <;> simp only [movesLeft, hs, ht, snap, txnLength] at hi ⊢ <;> omega

/-- The first byte of a transaction is nearer than its `BusBegin`. -/
theorem movesLeft_byte_zero_lt {x : Txn} (hs : s.phase = .run (.beginTxn x)) (ht : t.phase = .run (.byte x 0))
    (snap : t.snap = s.snap) : movesLeft t < movesLeft s := by
  cases x <;> simp only [movesLeft, hs, ht, snap] <;> omega

/-- A request and the wait before it cost less than the response of the attempt before. -/
theorem requestCost_add_waitCost_lt {l : Snapshot} {k : Nat} (h : k < l.max.toNat) :
    requestCost l k + waitCost l < readLoCost l k := by
  have hattempts : l.max.toNat - k = l.max.toNat - (k + 1) + 1 := by omega
  simp only [requestCost, readLoCost]
  rw [hattempts, Nat.succ_mul]
  omega

theorem doneCost_lt_readLoCost (l : Snapshot) (k : Nat) : doneCost l < readLoCost l k := by
  unfold readLoCost
  omega

theorem one_lt_doneCost (l : Snapshot) : 1 < doneCost l := by
  unfold doneCost writeCost
  omega

theorem one_lt_readLoCost (l : Snapshot) (k : Nat) : 1 < readLoCost l k :=
  (one_lt_doneCost l).trans (doneCost_lt_readLoCost l k)

/-- At a position that is no wait more than the completion step is left. -/
theorem one_lt_movesLeft {p : Pos} (hp : s.phase = .run p) (hwait : ∀ g, p ≠ .wait g) : 1 < movesLeft s := by
  cases p with
  | beginTxn x => cases x <;> simp only [movesLeft, hp, waitCost] <;> omega
  | byte x i => cases x <;> simp only [movesLeft, hp, waitCost] <;> omega
  | endTxn x => cases x <;> simp only [movesLeft, hp, waitCost] <;> omega
  | wait g => exact absurd rfl (hwait g)
  | request => simp only [movesLeft, hp, requestCost]; omega
  | readHi =>
    have hlo := one_lt_readLoCost s.snap s.k.toNat
    simp only [movesLeft, hp]
    omega
  | readLo =>
    have hlo := one_lt_readLoCost s.snap s.k.toNat
    simpa only [movesLeft, hp] using hlo

/-- Nothing is left exactly when the engine is IDLE. -/
theorem movesLeft_eq_zero_iff (s : State) : movesLeft s = 0 ↔ s.phase = .idle := by
  cases hp : s.phase with
  | idle => simp [movesLeft, hp]
  | exec => simp [movesLeft, hp]
  | finish e res => simp [movesLeft, hp]
  | run p =>
    suffices 0 < movesLeft s by simp [this.ne']
    by_cases hwait : ∃ g, p = .wait g
    · obtain ⟨g, rfl⟩ := hwait
      rw [movesLeft_wait hp]
      exact Nat.add_pos_left (gapCost_pos _ _ _) _
    · exact (one_lt_movesLeft hp (not_exists.mp hwait)).le

/-! ### Waits (43_register_transfer R100) -/

/-- What follows a wait costs no more than the bound leaves for it. -/
theorem movesLeft_afterWait_le (g : Gap) (s : State) : movesLeft (afterWait g s) ≤ gapCost s.snap s.k.toNat g := by
  cases g with
  | afterAddress => exact le_rfl
  | retry => exact le_rfl
  | betweenTxns => exact le_rfl
  | postWrite => exact le_rfl
  | beforeWrite =>
    cases htwo : s.snap.cfg.wrTwoTxn with
    | false =>
      simp only [afterWait, firstWriteTxn, htwo, movesLeft, gapCost, writeCost, State.goto_phase, State.goto_snap,
        Bool.false_eq_true, if_false]
      omega
    | true => simp [afterWait, firstWriteTxn, htwo, movesLeft, gapCost, writeCost]

/-- A wait that is entered, or skipped, costs less than the bound leaves for it. -/
theorem movesLeft_enterWait_lt (g : Gap) (s : State) :
    movesLeft (enterWait g s) < gapCost s.snap s.k.toNat g + waitCost s.snap := by
  rcases enterWait_cases g s with ⟨-, he⟩ | ⟨-, he⟩ <;> rw [he]
  · have hafter := movesLeft_afterWait_le g s
    unfold waitCost
    omega
  · have hticks : (s.snap.settle.setWidth 9 + 1).toNat = s.snap.settle.toNat + 1 := by bv_omega
    rw [movesLeft_wait rfl, hticks, waitCost]
    exact Nat.add_lt_add_left (by omega) _

/-- A tick of a held wait. -/
theorem movesLeft_tickWait_lt {g : Gap} (hp : s.phase = .run (.wait g)) (hticks : 1 ≤ s.wcnt.toNat) :
    movesLeft (tickWait g s) < movesLeft s := by
  rw [movesLeft_wait hp]
  rcases hticks.eq_or_lt with hlast | hmore
  · have hafter := movesLeft_afterWait_le g { s with wcnt := 0 }
    rw [tickWait_last g hlast.symm]
    exact hafter.trans_lt (Nat.lt_add_of_pos_right hticks)
  · rw [tickWait_count g hmore, movesLeft_wait (s := { s with wcnt := s.wcnt - 1 }) hp]
    exact Nat.add_lt_add_left (by simp only; bv_omega) _

/-! ### The steps of a bus command (43_register_transfer R101 to R108) -/

theorem movesLeft_beginStep_lt {x : Txn} (hp : s.phase = .run (.beginTxn x)) :
    movesLeft (beginStep x s) < movesLeft s := by
  rcases beginStep_cases x s with h | h <;> rw [h]
  · exact one_lt_movesLeft hp (by simp)
  · exact movesLeft_byte_zero_lt hp rfl rfl

theorem movesLeft_byteStep_lt {x : Txn} {i : Nat} (r : BusReply) (hp : s.phase = .run (.byte x i))
    (hi : i < txnLength x) : movesLeft (byteStep x i r s) < movesLeft s := by
  have hbyte : i < (txnBytes x s).length := by simpa using hi
  rw [byteStep_eq r (List.getElem?_eq_getElem hbyte)]
  split
  · split
    · next hmore => exact movesLeft_byte_succ_lt hp rfl rfl (by simpa using hmore)
    · exact movesLeft_endTxn_lt_byte hp rfl rfl
  · exact movesLeft_endTxn_lt_byte hp rfl rfl

theorem movesLeft_afterTxn_lt (x : Txn) (s : State) :
    movesLeft (afterTxn x s) < gapCost s.snap 0 x.gap + waitCost s.snap := by
  cases x with
  | address => exact movesLeft_enterWait_lt .afterAddress { s with k := 0 }
  | header => exact movesLeft_enterWait_lt .betweenTxns s
  | whole => exact movesLeft_enterWait_lt .postWrite { s with status := { s.status with written := true } }
  | codeword => exact movesLeft_enterWait_lt .postWrite { s with status := { s.status with written := true } }

theorem movesLeft_endStep_lt {x : Txn} (r : BusReply) (hp : s.phase = .run (.endTxn x)) :
    movesLeft (endStep x r s) < movesLeft s := by
  rw [endStep_eq]
  split
  · exact one_lt_movesLeft hp (by simp)
  · rw [movesLeft_endTxn hp]
    exact movesLeft_afterTxn_lt x (s.logBus (.ended r.ack))

/-- The `BusRequest` step, where the attempt counter does not saturate. -/
theorem movesLeft_requestStep_lt (r : BusReply) (hp : s.phase = .run .request) (hk : s.k ≠ 255) :
    movesLeft (requestStep r s) < movesLeft s := by
  have hraise : 1 < movesLeft s := one_lt_movesLeft hp (by simp)
  unfold requestStep atSafePoint
  split
  · exact hraise
  split
  · exact hraise
  · simp only [movesLeft, hp, State.goto_phase, State.goto_snap, State.goto_k, State.logBus_snap, satSucc_toNat hk,
      requestCost]
    omega

/-- What follows a valid response. -/
theorem movesLeft_readDone_lt (rv : Val11) (w : Codeword) (s : State) : movesLeft (readDone rv w s) < doneCost s.snap := by
  unfold readDone
  split
  · exact one_lt_doneCost _
  split
  · have hwait := movesLeft_enterWait_lt .beforeWrite { s with rvOld := rv, newv := wrfldMerged s.snap rv }
    rwa [gapCost, Nat.add_comm] at hwait
  · exact one_lt_doneCost _

theorem movesLeft_readLoStep_lt (r : BusReply) (hp : s.phase = .run .readLo) :
    movesLeft (readLoStep r s) < movesLeft s := by
  have hs : movesLeft s = readLoCost s.snap s.k.toNat := by simp only [movesLeft, hp]
  rw [readLoStep_eq, hs]
  split
  · exact (movesLeft_readDone_lt _ _ (s.takeLo r.byte)).trans (doneCost_lt_readLoCost _ _)
  split
  · exact one_lt_readLoCost _ _
  · next hk =>
    exact (movesLeft_enterWait_lt .retry (s.takeLo r.byte)).trans
      (requestCost_add_waitCost_lt (BitVec.lt_def.mp (BitVec.not_le.mp hk)))

/-- An engine step at a position that is no wait, with an answer where one is awaited. -/
theorem movesLeft_busStep_lt {p : Pos} {r : Option BusReply} (h : Inv s) (hp : s.phase = .run p)
    (hwait : ∀ g, p ≠ .wait g) (hanswer : awaitsAnswer p = true → ∃ a, r = some a) :
    movesLeft (busStep p r s) < movesLeft s := by
  have here : StandsAt s p := h.standsAt hp
  cases p with
  | beginTxn x => exact movesLeft_beginStep_lt hp
  | byte x i =>
    obtain ⟨a, rfl⟩ := hanswer rfl
    exact movesLeft_byteStep_lt a hp (by simpa using (Bool.and_eq_true_iff.mp here.pos_ok).2)
  | endTxn x =>
    obtain ⟨a, rfl⟩ := hanswer rfl
    exact movesLeft_endStep_lt a hp
  | wait g => exact absurd rfl (hwait g)
  | request =>
    obtain ⟨a, rfl⟩ := hanswer rfl
    obtain ⟨-, hk⟩ := attempts_below_iff.mp here.attempts_ok
    exact movesLeft_requestStep_lt a hp (by bv_omega)
  | readHi =>
    obtain ⟨a, rfl⟩ := hanswer rfl
    simp [busStep, readHiStep, movesLeft, hp]
  | readLo =>
    obtain ⟨a, rfl⟩ := hanswer rfl
    exact movesLeft_readLoStep_lt a hp

/-- In a held wait the engine raises ABORTED or stands still. -/
theorem movesLeft_waitStep_le {g : Gap} (hp : s.phase = .run (.wait g)) : movesLeft (waitStep g s) ≤ movesLeft s := by
  have hpos : 1 ≤ movesLeft s := Nat.pos_of_ne_zero fun h0 => by simp [(movesLeft_eq_zero_iff s).mp h0] at hp
  unfold waitStep atSafePoint
  split
  · split
    · exact hpos
    · exact le_rfl
  · exact le_rfl

/-! ### The moves of the agents -/

/-- The EXEC step ends a pure command. -/
theorem movesLeft_pureStep (hop : isPureOp s.snap.op = true) : movesLeft (pureStep s) = 1 := by
  unfold pureStep
  split
  · rfl
  split
  · rfl
  split
  · rfl
  · next hcrc henc hdec => simp [isPureOp, hcrc, henc, hdec] at hop

/-- A tick gets the command on inside a wait. -/
theorem progresses_tick_iff : progresses s .tick = true ↔ ∃ g, s.phase = .run (.wait g) := by
  cases hp : s.phase with
  | run p => cases p <;> simp [progresses, hp]
  | idle => simp [progresses, hp]
  | exec => simp [progresses, hp]
  | finish e res => simp [progresses, hp]

/-- An engine step inside RUN gets the command on outside a wait, with an answer where one is awaited. -/
theorem progresses_engine_run_iff {p : Pos} {r : Option BusReply} (hp : s.phase = .run p) :
    progresses s (.engine r) = true ↔ (∀ g, p ≠ .wait g) ∧ (awaitsAnswer p = true → r.isSome = true) := by
  cases p <;> simp [progresses, awaitsAnswer, hp]

theorem movesLeft_engineStep_lt {r : Option BusReply} (h : Inv s) (hprog : progresses s (.engine r) = true) :
    movesLeft (engineStep r s) < movesLeft s := by
  have hidle : s.phase ≠ .idle := fun hp => by simp [progresses, hp] at hprog
  rw [engineStep_eq r (h.running hidle).rst]
  cases hp : s.phase with
  | idle => exact absurd hp hidle
  | exec =>
    have hop : isPureOp s.snap.op = true := by simpa only [hp, phaseOk] using h.phase_ok
    have hexec : movesLeft s = 2 := by simp only [movesLeft, hp]
    simp [movesLeft_pureStep hop, hexec]
  | finish e res => simp [movesLeft, hp]
  | run p =>
    obtain ⟨hwait, hanswer⟩ := (progresses_engine_run_iff hp).mp hprog
    exact movesLeft_busStep_lt h hp hwait fun hawait => Option.isSome_iff_exists.mp (hanswer hawait)

/-- An engine step that does not get the command on stands still, or takes a pending abort in a wait. -/
theorem movesLeft_engineStep_le (h : Inv s) (hidle : s.phase ≠ .idle) (r : Option BusReply) :
    movesLeft (engineStep r s) ≤ movesLeft s := by
  by_cases hprog : progresses s (.engine r) = true
  · exact (movesLeft_engineStep_lt h hprog).le
  cases hp : s.phase with
  | idle => exact absurd hp hidle
  | exec => simp [progresses, hp] at hprog
  | finish e res => simp [progresses, hp] at hprog
  | run p =>
    rw [progresses_engine_run_iff hp, not_and_or] at hprog
    rcases hprog with hwait | hsilent
    · obtain ⟨g, rfl⟩ : ∃ g, p = .wait g := by simpa using hwait
      rw [engineStep_run r (h.running hidle).rst hp]
      exact movesLeft_waitStep_le hp
    · obtain ⟨hawait, rfl⟩ : awaitsAnswer p = true ∧ r = none := by simpa using hsilent
      rw [engineStep_unanswered hp hawait]

theorem movesLeft_tickStep_lt (h : Inv s) (hprog : progresses s .tick = true) :
    movesLeft (tickStep s) < movesLeft s := by
  obtain ⟨g, hp⟩ := progresses_tick_iff.mp hprog
  rw [tickStep_wait (h.running (by simp [hp])).rst hp]
  exact movesLeft_tickWait_lt hp (h.wait_ok g hp).1

theorem movesLeft_tickStep_le (h : Inv s) : movesLeft (tickStep s) ≤ movesLeft s := by
  by_cases hprog : progresses s .tick = true
  · exact (movesLeft_tickStep_lt h hprog).le
  · rw [tickStep_outside_wait fun g hp => hprog (progresses_tick_iff.mpr ⟨g, hp⟩)]

/-- No host access touches how far a running command is from its end. -/
theorem HostEffect.movesLeft_of_busy {a : HostAccess} (h : HostEffect s a t) (hb : s.status.busy = true) :
    movesLeft t = movesLeft s := by
  cases h with
  | illegal v idle => simp [hb] at idle
  | accepted v i idle => simp [hb] at idle
  | abort v => rw [requestAbort_frame]; rfl
  | _ => rfl

/-- Settles O47: an engine step that gets the command on passes to a position the bound puts nearer
(`movesLeft_engineStep_lt`), a tick inside a wait does (`movesLeft_tickStep_lt`), and every other move leaves the bound or
takes a pending abort, one move from the end. -/
theorem progressingMovesBringTheEndNearer : Obligations.ProgressingMovesBringTheEndNearer := by
  refine ⟨movesLeft_eq_zero_iff, fun s t e h hb hprog hperf => ?_, fun s t e h hb hreset hrst hperf => ?_⟩
  · cases e with
    | host a => cases hprog
    | engine r => cases hperf; exact movesLeft_engineStep_lt h hprog
    | tick => cases hperf; exact movesLeft_tickStep_lt h hprog
    | reset => cases hprog
    | rst level => cases hprog
  · cases e with
    | host a => exact ((hostStep_effect hperf).2.movesLeft_of_busy hb).le
    | engine r => cases hperf; exact movesLeft_engineStep_le h (h.busy_iff.mp hb) r
    | tick => cases hperf; exact movesLeft_tickStep_le h
    | reset => exact absurd rfl hreset
    | rst level => exact absurd rfl (hrst level)

end Sys2Proof.Machine
end

section
/-! What the engine's and the tick's steps leave alone (43_register_transfer R98, R100; 60_exceptions R124). -/

namespace Sys2Proof.Machine

variable {s t : State}

/-! ### The record of the bus port -/

/-- The record of `t` is that of `s`, with at most one primitive added. -/
def AddsAtMostOneCall (s t : State) : Prop :=
  t.busLog = s.busLog ∨ ∃ c, c ≠ .cut ∧ t.busLog = c :: s.busLog

/-- A step that issues a primitive and leaves the record at that. -/
theorem AddsAtMostOneCall.one (c : BusCall) (hc : c ≠ .cut) (h : t.busLog = c :: s.busLog) : AddsAtMostOneCall s t :=
  .inr ⟨c, hc, h⟩

theorem enterWait_busLog (g : Gap) (s : State) : (enterWait g s).busLog = s.busLog := by
  rw [enterWait_eq]

theorem readDone_busLog (rv : Val11) (w : Codeword) (s : State) : (readDone rv w s).busLog = s.busLog := by
  unfold readDone
  split
  · rfl
  split
  · exact enterWait_busLog _ _
  · rfl

theorem beginStep_addsAtMostOneCall (x : Txn) (s : State) : AddsAtMostOneCall s (beginStep x s) := by
  rcases beginStep_cases x s with h | h <;> rw [h]
  · exact .inl rfl
  · exact .one (.begun s.snap.dev) (by simp) rfl

theorem byteStep_addsAtMostOneCall (x : Txn) (i : Nat) (r : BusReply) (s : State) :
    AddsAtMostOneCall s (byteStep x i r s) := by
  cases h : (txnBytes x s)[i]? with
  | none => simp only [byteStep, h]; exact .inl rfl
  | some b =>
    rw [byteStep_eq r h]
    refine .one (.wrote b r.ack) (by simp) ?_
    split
    · split <;> rfl
    · rfl

theorem endStep_addsAtMostOneCall (x : Txn) (r : BusReply) (s : State) : AddsAtMostOneCall s (endStep x r s) := by
  refine .one (.ended r.ack) (by simp) ?_
  rw [endStep_eq]
  split
  · rfl
  · exact afterTxn_busLog _ _

theorem waitStep_busLog (g : Gap) (s : State) : (waitStep g s).busLog = s.busLog := by
  unfold waitStep atSafePoint
  split
  · split <;> rfl
  · rfl

theorem requestStep_addsAtMostOneCall (r : BusReply) (s : State) : AddsAtMostOneCall s (requestStep r s) := by
  unfold requestStep atSafePoint
  split
  · exact .inl rfl
  · refine .one (.requested s.snap.dev r.count) (by simp) ?_
    split <;> rfl

theorem readLoStep_addsAtMostOneCall (r : BusReply) (s : State) : AddsAtMostOneCall s (readLoStep r s) := by
  refine .one (.gotByte r.byte) (by simp) ?_
  rw [readLoStep_eq]
  split
  · exact readDone_busLog _ _ _
  split
  · rfl
  · exact enterWait_busLog _ _

theorem onAnswer_addsAtMostOneCall {act : BusReply → State → State} (r : Option BusReply)
    (h : ∀ a, AddsAtMostOneCall s (act a s)) : AddsAtMostOneCall s (onAnswer r act s) := by
  cases r with
  | none => exact .inl rfl
  | some a => exact h a

theorem busStep_addsAtMostOneCall (p : Pos) (r : Option BusReply) (s : State) :
    AddsAtMostOneCall s (busStep p r s) := by
  cases p with
  | beginTxn x => exact beginStep_addsAtMostOneCall x s
  | byte x i => exact onAnswer_addsAtMostOneCall r fun a => byteStep_addsAtMostOneCall x i a s
  | endTxn x => exact onAnswer_addsAtMostOneCall r fun a => endStep_addsAtMostOneCall x a s
  | wait g => exact .inl (waitStep_busLog g s)
  | request => exact onAnswer_addsAtMostOneCall r fun a => requestStep_addsAtMostOneCall a s
  | readHi => exact onAnswer_addsAtMostOneCall r fun a => .one (.gotByte a.byte) (by simp) rfl
  | readLo => exact onAnswer_addsAtMostOneCall r fun a => readLoStep_addsAtMostOneCall a s

theorem pureStep_busLog (s : State) : (pureStep s).busLog = s.busLog := by
  unfold pureStep
  split
  · rfl
  split
  · rfl
  split <;> rfl

/-- An engine step issues one primitive or none (43_register_transfer R98). -/
theorem engineStep_addsAtMostOneCall (r : Option BusReply) (s : State) : AddsAtMostOneCall s (engineStep r s) := by
  cases hrst : s.rst with
  | true => rw [engineStep_rst r hrst]; exact .inl rfl
  | false =>
    rw [engineStep_eq r hrst]
    cases hp : s.phase with
    | idle => exact .inl rfl
    | exec => exact .inl (pureStep_busLog s)
    | run p => exact busStep_addsAtMostOneCall p r s
    | finish e res => exact .inl rfl

/-! ### The registers -/

/-- A tick writes the tick counter and the phase alone. -/
theorem tickStep_eq (s : State) : tickStep s = { s with wcnt := (tickStep s).wcnt, phase := (tickStep s).phase } := by
  unfold tickStep
  split
  · rfl
  split
  · exact tickWait_eq _ _
  · rfl

/-- What every engine step writes: the results, STATUS but for OVR, the phase, `abort_pending`, the working values and
the record of the bus port. -/
theorem engineStep_frame (r : Option BusReply) (s : State) :
    engineStep r s = { engineStep r s with
      cmd := s.cmd, status := { (engineStep r s).status with ovr := s.status.ovr }
      opa := s.opa, opb := s.opb, opc := s.opc
      cfg := s.cfg, devaddr := s.devaddr, settleMs := s.settleMs, maxAttempts := s.maxAttempts
      snap := s.snap, rst := s.rst, agenda := s.agenda, draws := s.draws, readData := s.readData } := by
  rcases engineStep_cases r s with f | ⟨e, res, -, -, h⟩
  · rw [f]
  · rw [h]; rfl

/-- Settles O35: the frames of a tick (`tickStep_eq`) and of an engine step (`engineStep_frame`), the one primitive an
engine step may issue, and the tighter frame outside the completion step (`RunFrame`). -/
theorem engineAndTickFrame : Obligations.EngineAndTickFrame := by
  intro s r t
  have f : t = _ := engineStep_frame r s
  refine ⟨tickStep_outside_wait, tickStep_eq s,
    ⟨(congrArg State.cmd f :), (congrArg State.opa f :), (congrArg State.opb f :), (congrArg State.opc f :)⟩,
    ⟨(congrArg State.cfg f :), (congrArg State.devaddr f :), (congrArg State.settleMs f :),
      (congrArg State.maxAttempts f :)⟩,
    ⟨(congrArg State.snap f :), (congrArg (·.status.ovr) f :)⟩,
    ⟨(congrArg State.rst f :), (congrArg State.agenda f :), (congrArg State.draws f :), (congrArg State.readData f :)⟩,
    engineStep_addsAtMostOneCall r s, fun hfinish => ?_⟩
  rcases engineStep_cases r s with hrun | ⟨e, res, hp, -, -⟩
  · exact ⟨hrun.res0, hrun.res1, hrun.abortPending, hrun.busy, hrun.done, hrun.err⟩
  · exact absurd hp (hfinish e res)

end Sys2Proof.Machine
end

section
/-! The reset, and the block while `rst` is asserted (70_reset_and_hazards R130, R131, R133). -/

namespace Sys2Proof.Machine

/-- While `rst` is asserted the block takes no tick. -/
theorem tickStep_rst {s : State} (h : s.rst = true) : tickStep s = s := by
  simp [tickStep, h]

/-- The RESET step looks at nothing of the block, so no command in progress can hold it off. -/
theorem perform_reset (s : State) : perform .reset s = .next (s.resetTo false) := rfl

/-- Asserting `rst` is a reset that stays. -/
theorem perform_rst_true (s : State) : perform (.rst true) s = .next (s.resetTo true) := rfl

/-- A reset to level 0 is the reset state with the outside's data and a marked record. -/
theorem State.resetTo_false (s : State) :
    s.resetTo false = { State.reset with
      agenda := s.agenda, draws := s.draws, readData := s.readData, busLog := .cut :: s.busLog } := rfl

/-- Settles O41: both moves are `State.resetTo`, whatever the state (`perform_reset`, `perform_rst_true`), and under `rst`
neither the engine (`engineStep_rst`) nor a tick (`tickStep_rst`) does anything. -/
theorem resetOverridesEverything : Obligations.ResetOverridesEverything := by
  refine ⟨fun s => ?reset, fun s => ?asserted, fun s r hrst => ?held⟩
  case reset => rw [perform_reset, State.resetTo_false]
  case asserted => rw [perform_rst_true, State.resetTo]
  case held => exact ⟨engineStep_rst r hrst, tickStep_rst hrst⟩

end Sys2Proof.Machine
end
